-- ==== Sys2Proof/Word.lean ====
section
/-! DEFINITION. The plain word types of the LF832's links: a byte of a frame, a 32-bit hall time. -/

namespace Sys2Proof

/-- One byte of the request port, the gauge bus or the acoustic line. -/
abbrev Byte := BitVec 8

/-- A 32-bit word that wraps: hall time, a hit's timestamp, the phase accumulator (R11, R25). -/
abbrev Word := BitVec 32

end Sys2Proof
end

