-- ==== Sys2Proof/Config.lean ====
section
/-! DEFINITION. What one part fixes and the manual leaves open: the factory serial number. -/

namespace Sys2Proof

/-- The part's 48-bit factory serial number (R176): fixed in the part, the same after every reset, and
stated nowhere in the manual. A free value: nothing constrains it (assumption log 3). -/
opaque Config.serialNumber : BitVec 48

end Sys2Proof
end

