-- ==== Sys2Proof/Syntax.lean ====
section
/-! DEFINITION. The commands of the LF832: one constructor of Instr for each row of spec/opcode_table.json,
with the operands the row's event or request carries, and the small types those operands are made of. -/

namespace Sys2Proof

/-- The record kinds of Table 0-1, in the order of their kind codes (Table 11-3). -/
inductive Kind where
  | hall | ram | group | step | plan | gauge | gpod | apod | crackset | crack | limit
  deriving DecidableEq, Repr

/-- The status codes of Table 10-3, in the order of their byte values (Table 11-2). -/
inductive Status where
  | ok | empty | badCheck | badLength | truncated | unknown | badKey | badField | badValue
  | wrongState | noPressure | limitActive | notFound
  deriving DecidableEq, Repr

/-- The filtered level of the HPU_READY input (R42), as the HALL field hpu_ready reports it. -/
inductive HpuLevel where
  | low | high
  deriving DecidableEq, Repr

/-- The filtered level of the ESTOP input (R42), as the HALL field estop reports it. -/
inductive EstopLevel where
  | clear | asserted
  deriving DecidableEq, Repr

/-- The content of one good request frame: its request code and its payload bytes (R167). -/
structure Request where
  code : Byte
  payload : List Byte
  deriving DecidableEq, Repr

/-- What a pod read ended in (R68): the pod did not acknowledge its address, or the bits of its 14 bytes arrived, as the
levels of SDA in their order without the acknowledge bits; true is high. -/
inductive PodReply where
  | nack
  | bits (sda : Vector Bool 112)
  deriving DecidableEq, Repr

/-- How a bus clear ended (R62): SDA was sampled high after one of the nine pulses, SDA was still low after
the ninth, or SCL was not seen high within stretch_limit_us of a release (R61). -/
inductive BusClearEnd where
  | sdaHigh (pulse : Fin 9)
  | sdaLow
  | sclHeld
  deriving DecidableEq, Repr

/-- A fall of the acoustic line from recessive to dominant while a reply is awaited, as the receiver samples it (R91):
bit j is the level at the middle of bit j, 2 µs after the bit begins, 0 dominant and 1 recessive; bit 0 is the start bit
and bit 9 the stop bit. -/
abbrev LineFall := BitVec 10

/-- One command of the block, one constructor per row of spec/opcode_table.json. Keys, selectors and forms of
requests are the raw bytes of Table 11-6, so that every request the port can receive can be written; item
lists are the raw bytes of R185. -/
inductive Instr where
  /-- RESET_ASSERT (R188). -/
  | resetAssert
  /-- POWER_ON_RESET (R188): the release of reset, with the levels that stand on the two hall inputs (R42). -/
  | powerOnReset (hpu : HpuLevel) (estop : EstopLevel)
  /-- CONTROL_TICK (R25). -/
  | controlTick
  /-- SAMPLE_SET (R27): the 28 counts in the scan order of Table 2-1. -/
  | sampleSet (counts : Vector (BitVec 16) 28)
  /-- PULSE_PERIOD_START (R32). -/
  | pulsePeriodStart
  /-- ESTOP_ASSERT (R42). -/
  | estopAssert
  /-- ESTOP_RELEASE (R42). -/
  | estopRelease
  /-- HPU_READY_FALL (R42). -/
  | hpuReadyFall
  /-- HPU_READY_RISE (R42). -/
  | hpuReadyRise
  /-- SEL_FALL (R170). -/
  | selFall
  /-- SEL_RISE (R166, R171): the levels of SDI at the rising edges of SCK since the fall of SEL, in their order; true is
  high. -/
  | selRise (sdi : List Bool)
  /-- IDENTIFY (R176). -/
  | identify
  /-- READ (R177). -/
  | read (kind key : Byte)
  /-- WRITE (R178): kind, key and items of any record. -/
  | write (kind key : Byte) (items : List Byte)
  /-- STEP_WRITE (R4): a WRITE of a STEP record or of a GROUP's step_count. -/
  | stepWrite (kind key : Byte) (items : List Byte)
  /-- SEAT_LOAD_WRITE (R19): a WRITE of a GROUP that names seat_load. -/
  | seatLoadWrite (group : Byte) (items : List Byte)
  /-- ZONE_WRITE (R126): a WRITE of a GROUP that names zone_lo or zone_hi. -/
  | zoneWrite (group : Byte) (items : List Byte)
  /-- GAUGE_ENABLE (R79): a WRITE of a GAUGE that carries enabled YES. -/
  | gaugeEnable (gauge : Byte) (items : List Byte)
  /-- GAUGE_DISABLE (R79): a WRITE of a GAUGE that carries enabled NO. -/
  | gaugeDisable (gauge : Byte) (items : List Byte)
  /-- APOD_ENABLE (R106): a WRITE of an APOD that carries enabled YES. -/
  | apodEnable (pod : Byte) (items : List Byte)
  /-- APOD_DISABLE (R106): a WRITE of an APOD that carries enabled NO. -/
  | apodDisable (pod : Byte) (items : List Byte)
  /-- PLAN_WRITE (R72): a WRITE of the PLAN record. -/
  | planWrite (key : Byte) (items : List Byte)
  /-- PWM_PERIOD_WRITE (R32): a WRITE of HALL that names pwm_period. -/
  | pwmPeriodWrite (key : Byte) (items : List Byte)
  /-- ATTENTION_MASK_WRITE (R182): a WRITE of HALL that names attention_mask. -/
  | attentionMaskWrite (key : Byte) (items : List Byte)
  /-- LIMIT_DEFINE (R146): a WRITE to an EMPTY limit slot. -/
  | limitDefine (slot : Byte) (items : List Byte)
  /-- LIMIT_EDIT (R148): a WRITE of a defined limit that names a field other than enabled. -/
  | limitEdit (slot : Byte) (items : List Byte)
  /-- LIMIT_ENABLE (R149): a WRITE of a limit that carries enabled YES. -/
  | limitEnable (slot : Byte) (items : List Byte)
  /-- LIMIT_DISABLE (R149): a WRITE of a limit that carries enabled NO. -/
  | limitDisable (slot : Byte) (items : List Byte)
  /-- LIST_CHANGED (R179): with no payload, or with a starting kind and key. -/
  | listChanged (start : Option (Byte × Byte))
  /-- RESTART (R180). -/
  | restart
  /-- RESTART_COMPLETE (R180). -/
  | restartComplete
  /-- GROUP_RUN with the form RESUME (R15). -/
  | groupRunResume (group : Byte)
  /-- GROUP_RUN with the form FROM_STEP (R15): the form byte as sent, any byte but 0x80 (R186). -/
  | groupRunFromStep (group form : Byte)
  /-- GROUP_PAUSE with the form NOW (R16). -/
  | groupPauseNow (group : Byte)
  /-- GROUP_PAUSE with the form AT_CYCLE_END (R17). -/
  | groupPauseAtCycleEnd (group : Byte)
  /-- GROUP_UNLOAD (R18). -/
  | groupUnload (group : Byte)
  /-- GROUP_RELEASE (R9). -/
  | groupRelease (group : Byte)
  /-- RAM_START (R35). -/
  | ramStart (ram : Byte)
  /-- RAM_STOP (R36). -/
  | ramStop (ram : Byte)
  /-- RAM_CLEAR (R37). -/
  | ramClear (ram : Byte)
  /-- GAUGE_ROUND (R75). -/
  | gaugeRound
  /-- GAUGE_ARM with the form ARM (R75). -/
  | gaugeArmArm
  /-- GAUGE_ARM with the form DISARM (R75). -/
  | gaugeArmDisarm
  /-- GAUGE_ZERO (R86): a gauge key, or 0xFF for ALL. -/
  | gaugeZero (sel : Byte)
  /-- PEAK_RESET (R87): a gauge key, or 0xFF for ALL. -/
  | peakReset (sel : Byte)
  /-- POD_COUNTERS_CLEAR (R122): a pod key, or 0xFF for ALL. -/
  | podCountersClear (sel : Byte)
  /-- FIND_CRACK (R136): a position in mm. -/
  | findCrack (x : BitVec 32)
  /-- CRACK_ACK (R137). -/
  | crackAck (slot : Byte)
  /-- CRACK_WIDTH (R138): a width in 0.01 mm. -/
  | crackWidth (slot : Byte) (width : BitVec 16)
  /-- CRACK_RETIRE (R139). -/
  | crackRetire (slot : Byte)
  /-- CRACK_MERGE (R141). -/
  | crackMerge (a b : Byte)
  /-- LIMIT_ACK (R162). -/
  | limitAck (slot : Byte)
  /-- LIMIT_RETIRE (R163). -/
  | limitRetire (slot : Byte)
  /-- INTERVAL_TIMER_EXPIRY (R73). -/
  | intervalTimerExpiry
  /-- CYCLIC_START (R74). -/
  | cyclicStart
  /-- DELAY_EXPIRY (R64). -/
  | delayExpiry
  /-- LATCH_BROADCAST_DONE (R65): whether the address byte and the data byte were acknowledged. -/
  | latchBroadcastDone (addrAck dataAck : Bool)
  /-- LATCH_WAIT_EXPIRY (R67). -/
  | latchWaitExpiry
  /-- POD_READ_DONE (R69). -/
  | podReadDone (reply : PodReply)
  /-- STRETCH_TIMEOUT (R61). -/
  | stretchTimeout
  /-- BUS_CLEAR_DONE (R62). -/
  | busClearDone (result : BusClearEnd)
  /-- TIME_FRAME_DUE (R97). -/
  | timeFrameDue
  /-- SLOT_OPEN (R96): whether the line is dominant at the slot time (R93). -/
  | slotOpen (dominant : Bool)
  /-- CONTENTION (R92): on the bit of the frame in flight whose middle comes next. -/
  | contention
  /-- REPLY_TIMEOUT (R99): the falls of the line since the poll, and no further byte in time. -/
  | replyTimeout (falls : List LineFall)
  /-- REPLY_FRAME_ERROR (R99): a byte of the reply fails. -/
  | replyFrameError
  /-- REPLY_RECEIVED (R100): the falls of the line since the poll, up to the end of the reply: its check byte, or the byte
  that fails. -/
  | replyReceived (falls : List LineFall)
  /-- QUIET_WAIT_END (R101). -/
  | quietWaitEnd
  /-- REQUEST_PULSE (R103): a dominant level of this many microseconds has ended recessive. -/
  | requestPulse (us : Nat)
  /-- LINE_STUCK (R104). -/
  | lineStuck
  /-- LINE_RECOVERED (R104). -/
  | lineRecovered
  /-- TIME_FRAME_END (R101). -/
  | timeFrameEnd
  /-- HELD_FRAME_BEGIN (R93). -/
  | heldFrameBegin
  deriving DecidableEq, Repr

end Sys2Proof
end

