-- ==== Sys2Proof/Machine/State.lean ====
section
/-! DEFINITION. The state of the LF832: every record of Table 0-1 with every field its table gives, the state the
blocks hold inside themselves, the request port, the pins' levels it cannot compute, and the queue of waiting
commands; the values of power-on reset; the outcomes' reasons. Fields that the manual computes from others (x_mm,
in_use, hall_time, READY, ATTN, the plant outputs) are functions of this state (Ops.lean, Outputs.lean). -/

namespace Sys2Proof.Machine

/-! ## Groups and steps (chapter 1) -/

/-- Table 1-1, state. -/
inductive GroupState where
  | idle | run | ending | pause | unload
  deriving DecidableEq, Repr

/-- Table 1-1, cycling. -/
inductive Cycling where
  | leadIn | cycling
  deriving DecidableEq, Repr

/-- Table 1-1, pause_cause. -/
inductive PauseCause where
  | none | supervisor | limit | programEnd | inspect
  deriving DecidableEq, Repr

/-- Table 1-2, kind. -/
inductive StepKind where
  | empty | ramp | dwell | cycle | inspect
  deriving DecidableEq, Repr

/-- A GROUP record (Table 1-1) with the phase increment of R10, which the group engine holds inside itself.
command is in 1/1024 N. -/
structure Group where
  state : GroupState := .idle
  stepCount : Nat := 0
  cursor : Nat := 0
  stepEntered : Bool := false
  command : Int := 0
  seatLoad : Int := 0
  transferRate : Nat := 10000
  dwellLeft : Nat := 0
  cyclesLeft : Nat := 0
  phase : Word := 0
  phaseInc : Word := 0
  cycling : Cycling := .leadIn
  lifeCycles : Nat := 0
  zoneLo : Nat := 0
  zoneHi : Nat := 0
  pauseCause : PauseCause := .none
  severity : Nat := 0
  derate : Nat := 1000
  deriving DecidableEq, Repr

/-- A STEP record (Table 1-2). -/
structure StepRec where
  kind : StepKind := .empty
  target : Int := 0
  rate : Nat := 10000
  durationMs : Nat := 1000
  mean : Int := 0
  amp : Nat := 0
  freqMhz : Nat := 1000
  count : Nat := 1
  deriving DecidableEq, Repr

/-! ## Rams (chapters 2 and 3) -/

/-- Table 2-2, state. -/
inductive RamState where
  | off | active | tripped
  deriving DecidableEq, Repr

/-- Table 2-2, trip_cause. -/
inductive TripCause where
  | none | estop | pressure | input | stroke | saturation | coil | limit
  deriving DecidableEq, Repr

/-- A RAM record (Table 2-2) with what its channel holds inside: the integrator (R28, in 2^-24 valve counts),
the load count of the latest sample set (R34 condition 8), and the two compares of its pulse output (R32). -/
structure Ram where
  state : RamState := .off
  tripCause : TripCause := .none
  group : Fin 4 := 0
  share : Nat := 0
  fsForce : Nat := 0
  loadZero : Int := 0
  fMin : Int := 0
  fMax : Int := 0
  slewMax : Nat := 1000
  fsStroke : Nat := 250000
  strokeZero : Int := 0
  strokeMin : Int := -250000
  strokeMax : Int := 250000
  kp : Nat := 0
  ki : Nat := 0
  satPeriods : Nat := 4000
  coilFsMa : Nat := 1000
  coilPeriods : Nat := 20
  force : Int := 0
  stroke : Int := 0
  coilMa : Int := 0
  setpoint : Int := 0
  u : Int := 0
  trackError : Int := 0
  clamped : Bool := false
  slewLimited : Bool := false
  saturated : Bool := false
  satCount : Nat := 0
  coilCount : Nat := 0
  integrator : Int := 0
  loadCount : Int := 0
  shadowCompare : Nat := 1250
  activeCompare : Nat := 1250
  deriving DecidableEq, Repr

/-! ## The round plan (chapter 4) -/

/-- Table 4-3, source. -/
inductive PlanSource where
  | supervisor | timed | peak | trough | both
  deriving DecidableEq, Repr

/-- Table 4-3, mode. -/
inductive PlanMode where
  | single | repeating | cyclic
  deriving DecidableEq, Repr

/-- Table 4-3, round_state. -/
inductive RoundState where
  | idle | delay | latch | wait | read | clear
  deriving DecidableEq, Repr

/-- Table 4-3, bus_state. -/
inductive BusState where
  | ok | fault
  deriving DecidableEq, Repr

/-- Table 4-3, trigger. -/
inductive TriggerKind where
  | none | supervisor | timed | peak | trough | cyclic
  deriving DecidableEq, Repr

/-- The PLAN record (Table 4-3). -/
structure Plan where
  source : PlanSource := .supervisor
  trigGroup : Fin 4 := 0
  delayPeriods : Nat := 0
  intervalMs : Nat := 1000
  mode : PlanMode := .single
  armed : Bool := false
  roundState : RoundState := .idle
  busState : BusState := .ok
  missedTriggers : Nat := 0
  roundNumber : Nat := 0
  trigger : TriggerKind := .none
  latchTime : Word := 0
  trigCommand : Int := 0
  trigLifeCycles : Nat := 0
  latchAnswered : Bool := false
  aborted : Bool := false
  podsRead : Nat := 0
  podsMissed : Nat := 0
  deriving DecidableEq, Repr

/-- Why a round is in CLEAR (R63, R66, R70): at its start, after a latch that timed out, after a pod read that
timed out. -/
inductive ClearReason where
  | start | latch | pod
  deriving DecidableEq, Repr

/-- What the round plan holds beside the PLAN record: the rest flag (R74), the interval timer's count (R73),
a CYCLIC start due at the present control tick (R74), the DELAY count (R64), and the round in flight: its trigger
kind, the group of its latch values (R65, R72), its pod list, the pods not yet handed over (the first is the one being
read), the values captured at its latch (R65), its counts of handovers, why it is in CLEAR, and whether a RESTART is
ending it (R77). busStart, waitEnds and busFree are clock counts (assumption log 1): the START of the bus activity in
progress, the end of WAIT, and one bit time after the latest STOP, before which no transaction begins (R60).
limitWrites holds the WRITEs of stretch_limit_us since that START, the latest first, each with its clock and the value it
replaced (R61). -/
structure Round where
  restFlag : Bool := false
  intervalCount : Nat := 2000
  cyclicDue : Bool := false
  delayCount : Nat := 0
  kind : TriggerKind := .none
  group : Fin 4 := 0
  pods : List (Fin 12) := []
  todo : List (Fin 12) := []
  latchTime : Word := 0
  trigCommand : Int := 0
  trigLifeCycles : Nat := 0
  latchAnswered : Bool := false
  podsRead : Nat := 0
  podsMissed : Nat := 0
  clearFor : ClearReason := .start
  restarting : Bool := false
  busStart : Nat := 0
  waitEnds : Nat := 0
  busFree : Nat := 0
  limitWrites : List (Nat × Nat) := []
  deriving DecidableEq, Repr

/-! ## Gauge records (chapter 5) -/

/-- Table 5-1, bridge. -/
inductive Bridge where
  | quarter | half | full
  deriving DecidableEq, Repr

/-- Table 5-1, state. -/
inductive GaugeState where
  | disabled | waiting | ok | overrange | stale
  deriving DecidableEq, Repr

/-- strain, peak_max and peak_min of a GAUGE record: all present or all absent (R78). -/
structure Strain where
  now : Int
  peakMax : Int
  peakMin : Int
  deriving DecidableEq, Repr

/-- A GAUGE record (Table 5-1). -/
structure Gauge where
  enabled : Bool := false
  gfMilli : Nat := 2000
  bridge : Bridge := .quarter
  zero : Int := 0
  zeroPending : Bool := false
  count : Option Int := .none
  strain : Option Strain := .none
  state : GaugeState := .disabled
  deriving DecidableEq, Repr

/-- Table 5-4, last_miss; and the reasons of R68 to R70. -/
inductive MissReason where
  | none | noAck | badCheck | latchMissed | stretch | fault
  deriving DecidableEq, Repr

/-- A GPOD record (Table 5-4) but for in_use, which is computed from the gauges (R79, R85). -/
structure GPod where
  consecutiveMisses : Nat := 0
  reads : Nat := 0
  misses : Nat := 0
  badChecks : Nat := 0
  stretchTimeouts : Nat := 0
  lastMiss : MissReason := .none
  deriving DecidableEq, Repr

/-! ## The acoustic line and the hit locator (chapters 6 and 7) -/

/-- Table 6-2, state. -/
inductive APodState where
  | disabled | ok | lost
  deriving DecidableEq, Repr

/-- Table 6-2, last_outcome; and the outcomes of R99 to R102. -/
inductive PollOutcome where
  | none | good | silent | gap | frameError | badCheck | contention
  deriving DecidableEq, Repr

/-- One hit: its timestamp in hall time and its amplitude in dB (R111). -/
structure Hit where
  time : Word
  amp : Nat
  deriving DecidableEq, Repr

/-- An APOD record (Table 6-2). -/
structure APod where
  enabled : Bool := false
  positionMm : Nat := 0
  state : APodState := .disabled
  consecutiveFails : Nat := 0
  lastOutcome : PollOutcome := .none
  frameErrors : Nat := 0
  podOverflows : Nat := 0
  received : Nat := 0
  belowAmp : Nat := 0
  accepted : Nat := 0
  paired : Nat := 0
  unpaired : Nat := 0
  slot : Option Hit := .none
  deriving DecidableEq, Repr

/-- R107, line_state. -/
inductive LineState where
  | ok | stuck
  deriving DecidableEq, Repr

/-- A sweep (R98, R103): none in progress, or one in progress with the last pod it polled. -/
inductive Sweep where
  | off
  | on (last : Option (Fin 16))
  deriving DecidableEq, Repr

/-- A frame held back by a dominant line (R93): a TIME frame; a POLL, with the round-robin position before its slot
opened; or a slot whose POLL is to be chosen again because the level was a request pulse. -/
inductive HeldFrame where
  | time
  | poll (pod : Fin 16) (rrBefore : Fin 16)
  | again
  deriving DecidableEq, Repr

/-- What the line is doing. Times are clock counts (assumption log 1). -/
inductive LineFrame where
  /-- Between frames: the next slot is awaited. -/
  | idle
  /-- A slot has opened on a dominant line and its frame waits (R93). -/
  | held (f : HeldFrame)
  /-- A TIME frame in flight, with the clock at its beginning (R95). -/
  | time (began : Nat)
  /-- A POLL frame in flight with its reply (R94, R99); counted is false once the pod has been disabled in
  flight (R102). -/
  | poll (pod : Fin 16) (began : Nat) (counted : Bool)
  /-- The quiet wait after a failed reply or a contention (R101): the frame's beginning and the wait's. -/
  | quiet (began since : Nat)
  /-- The wait after a RESTART for the next slot (R109). -/
  | settling (since : Nat)
  deriving DecidableEq, Repr

/-- What the line master holds beside the records: the round-robin position, the sweep, a TIME frame due, the next
moment at which one falls due in µs since the release of reset (R97), what the line is doing, the time of the next slot
and the entry to STUCK (R96 to R104). -/
structure Line where
  rr : Fin 16 := 15
  sweep : Sweep := .off
  timeDue : Bool := false
  nextTime : Nat := 100000
  frame : LineFrame := .idle
  nextSlot : Nat := 0
  stuckSince : Nat := 0
  deriving DecidableEq, Repr

/-! ## The crack table (chapter 8) -/

/-- The CRACKSET record: the line fields of R107, the locator settings of Table 7-1, the fields of Table 8-1. -/
structure CrackSet where
  pollIntervalUs : Nat := 1000
  lineState : LineState := .ok
  contentionCount : Nat := 0
  minAmpDb : Nat := 45
  pairHoldUs : Nat := 20000
  waveSpeed : Nat := 4000
  guardUs : Nat := 50
  radiusMm : Nat := 150
  confirmCount : Nat := 8
  windowCycles : Nat := 1000
  activeEvents : Nat := 20
  quietWindows : Nat := 5
  suspectWindows : Nat := 3
  eventsLost : Nat := 0
  deriving DecidableEq, Repr

/-- Table 8-2, state of a live record. -/
inductive CrackState where
  | suspect | confirmed | active | quiet
  deriving DecidableEq, Repr

/-- A measured width with the cycle of its inspection: present together or absent together (Table 8-2). -/
structure Width where
  width : Nat
  inspectedCycle : Nat
  deriving DecidableEq, Repr

/-- A live CRACK record (Table 8-2) but for x_mm, which is computed from x_q. -/
structure Crack where
  state : CrackState
  xq : Int
  xLo : Int
  xHi : Int
  events : Nat
  windowEvents : Nat
  quietCount : Nat
  peakAmp : Nat
  refGroup : Option (Fin 4)
  firstCycle : Nat
  confirmCycle : Option Nat
  width : Option Width
  acknowledged : Bool
  deriving DecidableEq, Repr

/-! ## The limit table (chapter 9) -/

/-- Table 9-1, state of a defined limit. -/
inductive LimitState where
  | disabled | clear | pending | tripped | latched
  deriving DecidableEq, Repr

/-- Table 9-1, source. -/
inductive LimitSource where
  | gaugeStrain | ramForce | ramStroke | ramError | aux | crackCount | crackWidth
  deriving DecidableEq, Repr

/-- Table 9-1, floor. -/
inductive Floor where
  | any | confirmed | active
  deriving DecidableEq, Repr

/-- Table 9-1, compare. -/
inductive Compare where
  | above | below
  deriving DecidableEq, Repr

/-- Table 9-1, action. -/
inductive Action where
  | note | derate | pauseAtCycleEnd | pauseNow | unload | trip
  deriving DecidableEq, Repr

/-- Table 9-1, stale_policy. -/
inductive StalePolicy where
  | hold | trip
  deriving DecidableEq, Repr

/-- A defined LIMIT record (Table 9-1); targets holds bit g for group g. -/
structure Limit where
  state : LimitState := .disabled
  enabled : Bool := false
  source : LimitSource := .ramForce
  sourceKey : Nat := 0
  floor : Floor := .any
  compare : Compare := .above
  set : Int := 0
  clear : Int := 0
  persistence : Nat := 1
  action : Action := .note
  derate : Nat := 900
  targets : BitVec 4 := 0
  latching : Bool := false
  stalePolicy : StalePolicy := .hold
  counter : Nat := 0
  value : Option Int := .none
  deriving DecidableEq, Repr

/-! ## The HALL record and the request port (chapter 10) -/

/-- R60, bus_speed. -/
inductive BusSpeed where
  | kbit100 | kbit400
  deriving DecidableEq, Repr

/-- The HALL record (Table 10-4) but for hall_time, which is computed from the clock. attention_mask holds bit k for
the kind of code k. -/
structure Hall where
  scanDelayUs : Nat := 10
  settleUs : Nat := 6
  pwmPeriod : Nat := 2500
  busSpeed : BusSpeed := .kbit100
  stretchLimitUs : Nat := 2000
  latchWaitUs : Nat := 1000
  staleLimit : Nat := 3
  attentionMask : BitVec 11 := 0x7FF
  overrunCount : Nat := 0
  cutCount : Nat := 0
  hpuReady : HpuLevel := .low
  estop : EstopLevel := .clear
  aux : Vector Int 4 := Vector.replicate 4 0
  deriving DecidableEq, Repr

/-- A record, named by its kind and key (Table 0-1). -/
inductive RecordId where
  | hall
  | ram (r : Fin 8)
  | group (g : Fin 4)
  | step (i : Fin 64)
  | plan
  | gauge (k : Fin 48)
  | gpod (p : Fin 12)
  | apod (p : Fin 16)
  | crackset
  | crack (c : Fin 32)
  | limit (l : Fin 24)
  deriving DecidableEq, Repr

/-- The change marks (R181): one for every record of every kind but STEP. -/
structure Marks where
  hall : Bool := false
  ram : Vector Bool 8 := Vector.replicate 8 false
  group : Vector Bool 4 := Vector.replicate 4 false
  plan : Bool := false
  gauge : Vector Bool 48 := Vector.replicate 48 false
  gpod : Vector Bool 12 := Vector.replicate 12 false
  apod : Vector Bool 16 := Vector.replicate 16 false
  crackset : Bool := false
  crack : Vector Bool 32 := Vector.replicate 32 false
  limit : Vector Bool 24 := Vector.replicate 24 false
  deriving DecidableEq, Repr

/-- Table 10-1, the port states. -/
inductive PortPhase where
  | starting | idle | receiving | working | answer
  deriving DecidableEq, Repr

/-- A response (R169): its status and payload, and the record an accepted READ named (R171). -/
structure Response where
  status : Status
  payload : List Byte
  readOf : Option RecordId
  deriving DecidableEq, Repr

/-- The request port: its state, whether SEL is low, whether the transaction in progress is one of 0xFF bytes (an
overrun or one begun in STARTING, R173, R174), the response held, the request in work, and whether the blocks
have taken the RESTART in work (R180). -/
structure Port where
  phase : PortPhase := .starting
  selLow : Bool := false
  overrun : Bool := false
  held : Option Response := .none
  work : Option Request := .none
  restartTaken : Bool := false
  deriving DecidableEq, Repr

/-! ## The whole machine -/

/-- The LF832. clk counts REFCLK cycles from the release of reset (hall time is clk / 40, R25); ticks counts the
control ticks raised; scanEnds is the clock at which the scan in progress ends (R26); sampled says that a sample
set has been taken since reset (R34); pulseStart is the clock at the last return of the shared period
counter to 0 (R32; the counter itself is pulseCounter in Ops.lean); inReset says that RST is taken as low (R188). pending
is the queue of waiting commands, the first in front. -/
structure State where
  clk : Nat := 0
  ticks : Nat := 0
  scanEnds : Option Nat := .none
  sampled : Bool := false
  pulseStart : Nat := 0
  inReset : Bool := false
  hall : Hall := {}
  rams : Vector Ram 8 := Vector.replicate 8 {}
  groups : Vector Group 4 := Vector.replicate 4 {}
  steps : Vector StepRec 64 := Vector.replicate 64 {}
  plan : Plan := {}
  round : Round := {}
  gauges : Vector Gauge 48 := Vector.replicate 48 {}
  gpods : Vector GPod 12 := Vector.replicate 12 {}
  apods : Vector APod 16 := Vector.replicate 16 {}
  line : Line := {}
  crackset : CrackSet := {}
  cracks : Vector (Option Crack) 32 := Vector.replicate 32 .none
  limits : Vector (Option Limit) 24 := Vector.replicate 24 .none
  marks : Marks := {}
  port : Port := {}
  pending : List Instr := []
  deriving DecidableEq, Repr

/-- The reasons for a fault: none. The manual gives the LF832 no command that stops it; what a command cannot do
it answers with a status, counts or leaves undone. -/
inductive Fault where
  deriving DecidableEq, Repr

/-- The reasons for a refusal by the model. -/
inductive Refusal where
  /-- A command that the model gives no meaning yet, by its mnemonic; raised by no arm of exec. Safe: the model stops. -/
  | notModelled (mnemonic : String)
  deriving DecidableEq, Repr

/-- The state at the release of reset (R188): every power-on value of every chapter, with the two hall inputs at
the levels that stand on their pins (R42, R45). -/
def State.powerOn (hpu : HpuLevel) (estop : EstopLevel) : State :=
  { hall := { hpuReady := hpu, estop := estop } }

/-- The machine right after reset, with HPU_READY low and ESTOP clear, the first values of their fields
(DESIGN CHOICE, assumption log 2: the manual has these two follow the inputs). -/
def State.reset : State := State.powerOn .low .clear

end Sys2Proof.Machine
end

