-- ==== Sys2Proof/Machine/Ops.lean ====
section
/-! DEFINITION. The named operations over the state that every block uses: banks of like records, hall time and the
passing of time, change marks and ATTN, and the writing of one record with the mark its owner's chapter gives. -/

namespace Sys2Proof.Machine

/-- Every record of a bank, changed in place. -/
def mapBank {α : Type} {n : Nat} (f : Fin n → α → α) (v : Vector α n) : Vector α n :=
  Vector.ofFn fun i => f i v[i]

/-- Every index of a bank in ascending order, folded over the state. -/
def forAll {n : Nat} (f : Fin n → State → State) (s : State) : State :=
  (List.finRange n).foldl (fun t i => f i t) s

/-! ## Time (R25; assumption log 1) -/

/-- n microseconds in REFCLK cycles (R25). -/
def us (n : Nat) : Nat := 40 * n

/-- Hall time: the 32-bit count of microseconds since the release of reset (R25). -/
def hallTime (s : State) : Word := BitVec.ofNat 32 (s.clk / 40)

/-- Time passes until the clock reads at least c; nothing else changes. -/
def passTo (c : Nat) (s : State) : State := { s with clk := max s.clk c }

/-- The shared period counter of the pulse outputs (R32): REFCLK cycles since its last return to 0. The next return
is the command PULSE_PERIOD_START, and until it comes the counter stands at the last count of its period. -/
def pulseCounter (s : State) : Nat := min (s.clk - s.pulseStart) (s.hall.pwmPeriod - 1)

/-- One bit time of the gauge bus in REFCLK cycles: 10 µs or 2.5 µs (R60). -/
def busBit (s : State) : Nat :=
  match s.hall.busSpeed with
  | .kbit100 => 400
  | .kbit400 => 100

/-- The moment at which a transaction that begins now has its START: at once, or one bit time after the latest STOP
(R60). -/
def startTime (s : State) : Nat := max s.clk s.round.busFree

/-- stretch_limit_us as it stood at a release of SCL during the bus activity in progress (R61): the value that the first
WRITE after that release replaced, or the present one where none came after. -/
def stretchLimitAt (released : Nat) (s : State) : Nat :=
  s.round.limitWrites.foldl (fun limit w => if released < w.1 then w.2 else limit) s.hall.stretchLimitUs

/-- Releases of SCL in the bus activity in progress whose stretches reach their limits now or later: for every limit in
force since its START, the earliest release under it that does. -/
def stretchReleases (s : State) : List Nat :=
  let starts := s.round.busStart :: s.round.limitWrites.map fun w => w.1
  let limits := s.hall.stretchLimitUs :: s.round.limitWrites.map fun w => w.2
  (starts.flatMap fun a => limits.map fun l => max a (s.clk - us l)).filter fun r =>
    decide (s.round.busStart ≤ r) && decide (s.clk ≤ r + us (stretchLimitAt r s))

/-- The earliest moment, now or later, at which a stretch of the bus activity in progress can have lasted as long as the limit
that stood at its release of SCL (R61; assumption log 13). -/
def stretchEnd (s : State) : Nat :=
  match (stretchReleases s).map fun r => r + us (stretchLimitAt r s) with
  | [] => s.clk
  | t :: ts => ts.foldl min t

/-! ## Change marks (R181) -/

/-- A record carries its change mark; a STEP never does (R3). -/
def Marks.get (m : Marks) : RecordId → Bool
  | .hall => m.hall
  | .ram r => m.ram[r]
  | .group g => m.group[g]
  | .step _ => false
  | .plan => m.plan
  | .gauge k => m.gauge[k]
  | .gpod p => m.gpod[p]
  | .apod p => m.apod[p]
  | .crackset => m.crackset
  | .crack c => m.crack[c]
  | .limit l => m.limit[l]

/-- The marks with one record's mark set or cleared. -/
def Marks.put (m : Marks) (b : Bool) : RecordId → Marks
  | .hall => { m with hall := b }
  | .ram r => { m with ram := m.ram.set r b }
  | .group g => { m with group := m.group.set g b }
  | .step _ => m
  | .plan => { m with plan := b }
  | .gauge k => { m with gauge := m.gauge.set k b }
  | .gpod p => { m with gpod := m.gpod.set p b }
  | .apod p => { m with apod := m.apod.set p b }
  | .crackset => { m with crackset := b }
  | .crack c => { m with crack := m.crack.set c b }
  | .limit l => { m with limit := m.limit.set l b }

/-- An owner sets a record's change mark. -/
def mark (r : RecordId) (s : State) : State := { s with marks := s.marks.put true r }

/-- A READ clears a record's change mark (R177). -/
def unmark (r : RecordId) (s : State) : State := { s with marks := s.marks.put false r }

/-- The mark is set when the condition holds. -/
def markIf (b : Bool) (r : RecordId) (s : State) : State := if b then mark r s else s

/-- The records that can carry a mark, in the kind order of Table 0-1 and within a kind in ascending key (R179). -/
def markable : List RecordId :=
  [.hall] ++ (List.finRange 8).map .ram ++ (List.finRange 4).map .group ++ [.plan] ++
  (List.finRange 48).map .gauge ++ (List.finRange 12).map .gpod ++ (List.finRange 16).map .apod ++
  [.crackset] ++ (List.finRange 32).map .crack ++ (List.finRange 24).map .limit

/-- The kind code and key of a record (Table 11-3). -/
def RecordId.pair : RecordId → Nat × Nat
  | .hall => (0, 0)
  | .ram r => (1, r)
  | .group g => (2, g)
  | .step i => (3, i)
  | .plan => (4, 0)
  | .gauge k => (5, k)
  | .gpod p => (6, p)
  | .apod p => (7, p)
  | .crackset => (8, 0)
  | .crack c => (9, c)
  | .limit l => (10, l)

/-- The marked records in the order of R179. -/
def markedRecords (s : State) : List RecordId := markable.filter fun r => s.marks.get r

/-! ## Writing one record -/

/-- RAM r is replaced; no mark. -/
def setRam (r : Fin 8) (x : Ram) (s : State) : State := { s with rams := s.rams.set r x }

/-- GROUP g is replaced, and marked when its state, cursor, pause_cause or severity changes (R23). -/
def putGroup (g : Fin 4) (x : Group) (s : State) : State :=
  let old := s.groups[g]
  markIf (x.state != old.state || x.cursor != old.cursor || x.pauseCause != old.pauseCause ||
      x.severity != old.severity) (.group g)
    { s with groups := s.groups.set g x }

/-- The PLAN record is replaced; no mark. -/
def setPlan (x : Plan) (s : State) : State := { s with plan := x }

/-- The round plan's inner state is replaced. -/
def setRound (x : Round) (s : State) : State := { s with round := x }

/-- APOD p is replaced, and marked when its state changes (R108). -/
def putAPod (p : Fin 16) (x : APod) (s : State) : State :=
  markIf (x.state != s.apods[p].state) (.apod p) { s with apods := s.apods.set p x }

/-- The line master's inner state is replaced. -/
def setLine (x : Line) (s : State) : State := { s with line := x }

/-- LIMIT l is replaced, and marked when its state changes, EMPTY counting as a state (R164). -/
def putLimit (l : Fin 24) (x : Option Limit) (s : State) : State :=
  markIf (x.map (·.state) != s.limits[l].map (·.state)) (.limit l)
    { s with limits := s.limits.set l x }

/-- The whole newtons of a group command in 1/1024 N: G_N (R2). -/
def Group.newtons (g : Group) : Int := roundDiv g.command 1024

/-- The reported position of a crack record: round(x_q / 16) (Table 8-2). -/
def Crack.xMm (c : Crack) : Int := roundDiv c.xq 16

/-- Mid: the compare that gives null coil current (R31). -/
def midCompare (s : State) : Nat := (roundDiv s.hall.pwmPeriod 2).toNat

end Sys2Proof.Machine
end

