-- ==== Sys2Proof/Machine/Protection.lean ====
section
/-! DEFINITION. The protection path (section 0.4): the group states that pause, unload and idle a group (R16 to R18),
ram trips and the group's response (R22, R38), severity, derate and actions of engaged limits (R20, R21), and the
evaluation of limits (chapter 9). -/

namespace Sys2Proof.Machine

/-! ## Groups -/

/-- The step at a group's cursor, if the cursor lies within the 16 steps (R3). -/
def currentStep (g : Fin 4) (s : State) : Option StepRec :=
  if h : s.groups[g].cursor < 16 then
    some (s.steps[g.val * 16 + s.groups[g].cursor]'(by omega))
  else none

/-- The group's current step is a CYCLE step whose cycling is CYCLING (R17). -/
def isCycling (g : Fin 4) (s : State) : Bool :=
  (currentStep g s).any (fun st => st.kind == .cycle) && s.groups[g].cycling == .cycling

/-- On entering IDLE (R18, R19, R24): cursor, cycles_left and dwell_left are kept. -/
def Group.toIdle (g : Group) : Group :=
  { g with
    state := .idle
    command := g.seatLoad * 1024
    phase := 0
    cycling := .leadIn
    stepEntered := false
    pauseCause := .none }

/-- Into UNLOAD (R18). -/
def Group.toUnload (g : Group) : Group := { g with state := .unload, pauseCause := .none }

/-- Into PAUSE with everything else held (R16). -/
def Group.toPause (c : PauseCause) (g : Group) : Group := { g with state := .pause, pauseCause := c }

/-- Some ram of the group is ACTIVE. -/
def anyActive (g : Fin 4) (s : State) : Bool :=
  (List.finRange 8).any fun r => s.rams[r].group == g && s.rams[r].state == .active

/-- Some ram of the group is TRIPPED. -/
def anyTripped (g : Fin 4) (s : State) : Bool :=
  (List.finRange 8).any fun r => s.rams[r].group == g && s.rams[r].state == .tripped

/-- A group enters UNLOAD, and IDLE at once when it has no ACTIVE ram (R18, R22). -/
def unloadGroup (g : Fin 4) (s : State) : State :=
  if anyActive g s then putGroup g s.groups[g].toUnload s
  else putGroup g s.groups[g].toIdle s

/-- The group's response to a trip of one of its rams (R22). -/
def groupTrip (g : Fin 4) (s : State) : State :=
  match s.groups[g].state with
  | .run | .ending | .pause => unloadGroup g s
  | .unload => if anyActive g s then s else putGroup g s.groups[g].toIdle s
  | .idle => s

/-! ## Rams leaving ACTIVE -/

/-- The live values of a ram that is not ACTIVE (R30, R38, R45): valve command, setpoint, tracking error,
integrator, flags and counts at rest, with mid staged (R31). -/
def Ram.atRest (mid : Nat) (r : Ram) : Ram :=
  { r with
    setpoint := 0
    u := 0
    trackError := 0
    clamped := false
    slewLimited := false
    saturated := false
    satCount := 0
    coilCount := 0
    integrator := 0
    shadowCompare := mid }

/-- A trip cause acts on a ram: an ACTIVE ram enters TRIPPED and its group responds; any other ram is not
changed (R38). -/
def tripRam (cause : TripCause) (r : Fin 8) (s : State) : State :=
  let x := s.rams[r]
  if x.state = .active then
    groupTrip x.group
      (mark (.ram r)
        (setRam r { x.atRest (midCompare s) with state := .tripped, tripCause := cause } s))
  else s

/-- Every ACTIVE ram is tripped, in ascending order (R42; assumption log 5). -/
def tripAll (cause : TripCause) (s : State) : State := forAll (tripRam cause) s

/-- Every ACTIVE ram of one group is tripped (R43, R161). -/
def tripGroup (cause : TripCause) (g : Fin 4) (s : State) : State :=
  forAll (fun r t => if t.rams[r].group = g then tripRam cause r t else t) s

/-! ## Engaged limits and their groups -/

/-- Severity of an action (R145). -/
def Action.severity : Action → Nat
  | .note => 0 | .derate => 1 | .pauseAtCycleEnd => 2 | .pauseNow => 3 | .unload => 4 | .trip => 5

/-- A limit in TRIPPED or LATCHED is engaged (section 9.4). -/
def Limit.engaged (l : Limit) : Bool := l.state == .tripped || l.state == .latched

/-- The limit targets the group. -/
def Limit.targets? (l : Limit) (g : Fin 4) : Bool := l.targets.getLsbD g.val

/-- The engaged limits that target a group, in slot order (R20). -/
def engagedOn (g : Fin 4) (s : State) : List Limit :=
  s.limits.toList.filterMap fun x =>
    match x with
    | some l => if l.engaged && l.targets? g then some l else none
    | none => none

/-- The largest action severity among engaged limits, or 0 (R20). -/
def severityOf (ls : List Limit) : Nat := ls.foldl (fun a l => max a l.action.severity) 0

/-- The smallest derate among engaged DERATE limits, or 1000 (R20). -/
def derateOf (ls : List Limit) : Nat :=
  ls.foldl (fun a l => if l.action = .derate then min a l.derate else a) 1000

/-- The group engine recomputes a group's severity and derate factor (R20). -/
def recompute (g : Fin 4) (s : State) : State :=
  putGroup g
    { s.groups[g] with
      severity := severityOf (engagedOn g s)
      derate := derateOf (engagedOn g s) } s

/-- The action of a limit that engages acts once on a target group (R21, Table 1-7). -/
def applyAction (a : Action) (g : Fin 4) (s : State) : State :=
  let x := s.groups[g]
  match a with
  | .note | .derate => s
  | .pauseAtCycleEnd =>
    match x.state with
    | .run =>
      if isCycling g s then putGroup g { x with state := .ending, pauseCause := .limit } s
      else putGroup g (x.toPause .limit) s
    | .ending => putGroup g { x with pauseCause := .limit } s
    | .idle | .pause | .unload => s
  | .pauseNow =>
    match x.state with
    | .run | .ending => putGroup g (x.toPause .limit) s
    | .idle | .pause | .unload => s
  | .unload =>
    match x.state with
    | .run | .ending | .pause => unloadGroup g s
    | .idle | .unload => s
  | .trip => tripGroup .limit g s

/-- A limit's engage notice to each of its targets in ascending order (R159): R20, then R21. -/
def notifyEngage (l : Limit) (s : State) : State :=
  forAll (fun g t => if l.targets? g then applyAction l.action g (recompute g t) else t) s

/-- A limit's release notice to each of its targets in ascending order (R159, R20). -/
def notifyRelease (l : Limit) (s : State) : State :=
  forAll (fun g t => if l.targets? g then recompute g t else t) s

/-! ## Sources (R150 to R152) -/

/-- The floor admits a crack state (R152). -/
def Floor.admits : Floor → CrackState → Bool
  | .any, _ => true
  | .confirmed, .suspect => false
  | .confirmed, _ => true
  | .active, st => st == .active

/-- The live crack records whose ref group is g, in slot order. -/
def cracksOf (g : Nat) (s : State) : List Crack :=
  s.cracks.toList.filterMap fun x =>
    match x with
    | some c => if c.refGroup.map Fin.val = some g then some c else none
    | none => none

/-- What a RAM_FORCE or RAM_STROKE limit reads where the RAM record holds v: 0 from a ram whose fs_force is 0 (R150), as
fs_force stands at the evaluation (DESIGN CHOICE, assumption log 27: a WRITE of fs_force since the latest sample set). -/
def Ram.watched (x : Ram) (v : Int) : Int := if x.fsForce = 0 then 0 else v

/-- The value of a limit's source as it stands, or none where the source is unreliable (R150 to R152). A RAM_ERROR limit
reads track_error as it stands when the limit is evaluated, so 0 from a ram that a limit evaluated before it in the
same sample set, a window close or ESTOP has tripped, not the value the ram's own handling of the sample set left
(DESIGN CHOICE, assumption log 26: R27, R149 and R150 name both). -/
def sourceValue (l : Limit) (s : State) : Option Int :=
  match l.source with
  | .gaugeStrain =>
    match s.gauges[l.sourceKey]? with
    | some g => if g.state = .ok then g.strain.map (·.now) else none
    | none => none
  | .ramForce => (s.rams[l.sourceKey]?).map fun x => x.watched x.force
  | .ramStroke => (s.rams[l.sourceKey]?).map fun x => x.watched x.stroke
  | .ramError => (s.rams[l.sourceKey]?).map (·.trackError)
  | .aux => s.hall.aux[l.sourceKey]?
  | .crackCount =>
    some ((cracksOf l.sourceKey s).countP fun c => !c.acknowledged && l.floor.admits c.state)
  | .crackWidth =>
    some ((cracksOf l.sourceKey s).foldl
      (fun a c => max a ((c.width.map fun w => (w.width : Int)).getD 0)) 0)

/-! ## Evaluation (R154 to R157) -/

/-- v is beyond set (R154). -/
def Limit.beyond (l : Limit) (v : Int) : Bool :=
  match l.compare with
  | .above => decide (l.set < v)
  | .below => decide (v < l.set)

/-- v is past clear (R154). -/
def Limit.past (l : Limit) (v : Int) : Bool :=
  match l.compare with
  | .above => decide (v < l.clear)
  | .below => decide (l.clear < v)

/-- What one evaluation of an enabled limit on the value v makes of it: Table 9-4 (R155, R156). -/
def Limit.judge (l : Limit) (v : Int) : Limit :=
  match l.state with
  | .clear =>
    if l.beyond v then
      if l.persistence ≤ 1 then { l with state := .tripped, counter := 0, value := some v }
      else { l with state := .pending, counter := 1, value := some v }
    else { l with value := some v }
  | .pending =>
    if l.past v then { l with state := .clear, counter := 0, value := some v }
    else if l.persistence ≤ l.counter + 1 then
      { l with state := .tripped, counter := 0, value := some v }
    else { l with counter := l.counter + 1, value := some v }
  | .tripped =>
    if l.past v then
      { l with state := if l.latching then .latched else .clear, counter := 0, value := some v }
    else { l with value := some v }
  | .latched | .disabled => { l with value := some v }

/-- What one evaluation of an enabled limit on an unreliable gauge source makes of it (R157). -/
def Limit.judgeStale (l : Limit) : Limit :=
  match l.stalePolicy, l.state with
  | .trip, .clear | .trip, .pending => { l with state := .tripped, counter := 0, value := none }
  | _, _ => { l with value := none }

/-- The limit as one evaluation leaves it. -/
def Limit.evaluated (l : Limit) (s : State) : Limit :=
  match sourceValue l s with
  | some v => l.judge v
  | none => l.judgeStale

/-- One evaluation of a limit slot (R153 to R159): a DISABLED limit and an EMPTY slot are not evaluated; entry to
TRIPPED hands the engage notices, leaving the engaged states hands the release notices. -/
def evalLimit (i : Fin 24) (s : State) : State :=
  match s.limits[i] with
  | none => s
  | some l =>
    if l.state = .disabled then s
    else
      let l' := l.evaluated s
      let t := putLimit i (some l') s
      if l'.engaged && !l.engaged then notifyEngage l' t
      else if l.engaged && !l'.engaged then notifyRelease l' t
      else t

/-- An event that reaches several limits evaluates them in ascending slot order (R160). -/
def evalWhere (p : Limit → Bool) (s : State) : State :=
  forAll (fun i t => if (t.limits[i]).any p then evalLimit i t else t) s

/-- Ram and auxiliary limits: evaluated at every sample set (Table 9-2). -/
def Limit.isPlant (l : Limit) : Bool :=
  match l.source with
  | .ramForce | .ramStroke | .ramError | .aux => true
  | .gaugeStrain | .crackCount | .crackWidth => false

/-- Limits on the crack records of a group's zone: evaluated at its zone change notices (Table 9-2). -/
def Limit.isCrackOf (g : Fin 4) (l : Limit) : Bool :=
  (l.source == .crackCount || l.source == .crackWidth) && l.sourceKey == g.val

/-- Limits on one gauge's strain: evaluated at its state changes (Table 9-2). -/
def Limit.isGaugeOf (k : Fin 48) (l : Limit) : Bool :=
  l.source == .gaugeStrain && l.sourceKey == k.val

/-- Limits on the strain of a gauge of one of the pods: evaluated at a round completion (Table 9-2). -/
def Limit.isGaugeOfPods (ps : List (Fin 12)) (l : Limit) : Bool :=
  l.source == .gaugeStrain && ps.any fun p => l.sourceKey / 4 == p.val

/-- Zone change notices for the groups concerned, in ascending order (R142). -/
def noticeZones (concerned : Fin 4 → Bool) (s : State) : State :=
  forAll (fun g t => if concerned g then evalWhere (Limit.isCrackOf g) t else t) s

end Sys2Proof.Machine
end

