-- ==== Sys2Proof/Machine/Cracks.lean ====
section
/-! DEFINITION. The crack table (chapter 8): ref groups, located events, activity windows, merging, and the zone
change notices they hand to the limit table. -/

namespace Sys2Proof.Machine

/-- The group of lowest index whose zone contains a position (R119, R126). -/
def zoneOf (x : Int) (s : State) : Option (Fin 4) :=
  (List.finRange 4).find? fun g =>
    decide ((s.groups[g].zoneLo : Int) ≤ x) && decide (x ≤ (s.groups[g].zoneHi : Int))

/-- The life_cycles of a ref group, or 0 where it is NONE. -/
def lifeOf (ref : Option (Fin 4)) (s : State) : Nat :=
  match ref with
  | some g => s.groups[g].lifeCycles
  | none => 0

/-- A crack slot is replaced, and marked when it is taken, freed, or changes state or acknowledged (R143). -/
def putCrack (c : Fin 32) (x : Option Crack) (s : State) : State :=
  markIf (x.map (fun y => (y.state, y.acknowledged)) !=
      s.cracks[c].map (fun y => (y.state, y.acknowledged))) (.crack c)
    { s with cracks := s.cracks.set c x }

/-- Zone change notices for the ref groups of a record before and after a change (R142). -/
def noticeRefs (refs : List (Option (Fin 4))) (s : State) : State :=
  noticeZones (fun g => refs.contains (some g)) s

/-- The live record nearest to a position, and its distance; the lowest slot among equals (R127, R136). -/
def nearestCrack (x : Int) (s : State) : Option (Fin 32 × Nat) :=
  (List.finRange 32).foldl (fun best c =>
    match s.cracks[c], best with
    | none, b => b
    | some y, none => some (c, (x - y.xMm).natAbs)
    | some y, some (d, n) =>
      if (x - y.xMm).natAbs < n then some (c, (x - y.xMm).natAbs) else some (d, n)) none

/-- A located event joins a record: steps 1 to 7 of R128, with the ref group computed from the new position. -/
def Crack.join (y : Crack) (x : Int) (amp : Nat) (ref : Int → Option (Fin 4)) : Crack :=
  let events := satInc 65535 y.events
  let xq := y.xq + roundDiv (16 * x - y.xq) (min events 256)
  { y with
    events := events
    xq := xq
    refGroup := ref (roundDiv xq 16)
    xLo := min y.xLo x
    xHi := max y.xHi x
    peakAmp := max y.peakAmp amp
    windowEvents := satInc 65535 y.windowEvents
    quietCount := 0 }

/-- A SUSPECT record whose events stand at or above confirm_count enters CONFIRMED (R129, R141). -/
def Crack.confirm (y : Crack) (s : State) : Crack :=
  if y.state = .suspect ∧ s.crackset.confirmCount ≤ y.events then
    { y with state := .confirmed, confirmCycle := some (lifeOf y.refGroup s) }
  else y

/-- The record that a located event creates (R130). -/
def newCrack (x : Int) (amp : Nat) (cycle : Nat) (ref : Option (Fin 4)) : Crack :=
  { state := .suspect
    xq := 16 * x
    xLo := x
    xHi := x
    events := 1
    windowEvents := 1
    quietCount := 0
    peakAmp := amp
    refGroup := ref
    firstCycle := cycle
    confirmCycle := none
    width := none
    acknowledged := false }

/-- The FREE slot of lowest index (R130). -/
def freeSlot (s : State) : Option (Fin 32) :=
  (List.finRange 32).find? fun c => s.cracks[c].isNone

/-- A located event that finds no record in reach (R130, R131). -/
def createCrack (x : Int) (amp cycle : Nat) (s : State) : State :=
  match freeSlot s with
  | some c =>
    noticeRefs [zoneOf x s] (putCrack c (some (newCrack x amp cycle (zoneOf x s))) s)
  | none =>
    markIf (s.crackset.eventsLost == 0) .crackset
      { s with crackset := { s.crackset with eventsLost := satInc max32 s.crackset.eventsLost } }

/-- A located event (R127 to R131): its position, amplitude and cycle (R119). -/
def locatedEvent (x : Int) (amp cycle : Nat) (s : State) : State :=
  match nearestCrack x s with
  | some (c, d) =>
    if d ≤ s.crackset.radiusMm then
      match s.cracks[c] with
      | some y =>
        let y' := (y.join x amp fun m => zoneOf m s).confirm s
        noticeRefs [y.refGroup, y'.refGroup] (putCrack c (some y') s)
      | none => s
    else createCrack x amp cycle s
  | none => createCrack x amp cycle s

/-- What a window close makes of a record of the group; none for a dropped record (R133, R134). -/
def Crack.windowClose (y : Crack) (cs : CrackSet) : Option Crack :=
  let quiet := satInc 255 y.quietCount
  match y.state with
  | .suspect =>
    if 1 ≤ y.windowEvents then some { y with quietCount := 0, windowEvents := 0 }
    else if cs.suspectWindows ≤ quiet ∧ y.acknowledged = false then none
    else some { y with quietCount := quiet, windowEvents := 0 }
  | .confirmed | .active | .quiet =>
    if cs.activeEvents ≤ y.windowEvents then
      some { y with
        state := .active
        acknowledged := if y.state = .active then y.acknowledged else false
        quietCount := 0
        windowEvents := 0 }
    else if 1 ≤ y.windowEvents then
      some { y with state := .confirmed, quietCount := 0, windowEvents := 0 }
    else
      some { y with
        state := if cs.quietWindows ≤ quiet then .quiet else y.state
        quietCount := quiet
        windowEvents := 0 }

/-- Some slot was dropped or changed state or acknowledged between two states of the table (R142). -/
def cracksChanged (s t : State) : Bool :=
  (List.finRange 32).any fun c =>
    s.cracks[c].map (fun y => (y.state, y.acknowledged)) !=
      t.cracks[c].map (fun y => (y.state, y.acknowledged))

/-- An activity window of group g closes (R132 to R135). -/
def closeWindow (g : Fin 4) (s : State) : State :=
  let t := forAll (fun c t =>
    match t.cracks[c] with
    | some y => if y.refGroup = some g then putCrack c (y.windowClose t.crackset) t else t
    | none => t) s
  if cracksChanged s t then noticeZones (fun h => h == g) t else t

/-- A WRAP of group g reaches the crack table; counted says that life_cycles was increased by it (R132). -/
def wrapAtCracks (g : Fin 4) (counted : Bool) (s : State) : State :=
  if counted && s.groups[g].lifeCycles % s.crackset.windowCycles == 0 then closeWindow g s else s

/-- A WRITE of a zone: the ref group of every live record is computed anew, with notices for the groups that a
changed binding concerns (R126, R142). -/
def recomputeRefs (s : State) : State :=
  let t : State :=
    { s with
      cracks := mapBank (fun _ x => x.map fun y => { y with refGroup := zoneOf y.xMm s }) s.cracks }
  noticeZones (fun g => (List.finRange 32).any fun c =>
    let old := (s.cracks[c]).bind (·.refGroup)
    let new := (t.cracks[c]).bind (·.refGroup)
    old != new && (old == some g || new == some g)) t

/-- The order of states in a merge: ACTIVE, CONFIRMED, QUIET, SUSPECT (R141). -/
def CrackState.rank : CrackState → Nat
  | .suspect => 0 | .quiet => 1 | .confirmed => 2 | .active => 3

/-- The width and inspected_cycle of a merged record (Table 8-6). -/
def mergeWidth : Option Width → Option Width → Option Width
  | none, w => w
  | w, none => w
  | some v, some w =>
    if v.width < w.width then some w
    else if w.width < v.width then some v
    else if v.inspectedCycle < w.inspectedCycle then some w else some v

/-- The smaller of the confirm cycles present (Table 8-6). -/
def mergeConfirm : Option Nat → Option Nat → Option Nat
  | none, b => b
  | a, none => a
  | some a, some b => some (min a b)

/-- The merged record of Table 8-6, its ref group computed from its position. -/
def Crack.merge (a b : Crack) (ref : Int → Option (Fin 4)) : Crack :=
  let xq := roundDiv (a.xq * a.events + b.xq * b.events) (a.events + b.events)
  { state := if a.state.rank < b.state.rank then b.state else a.state
    xq := xq
    xLo := min a.xLo b.xLo
    xHi := max a.xHi b.xHi
    events := min 65535 (a.events + b.events)
    windowEvents := min 65535 (a.windowEvents + b.windowEvents)
    quietCount := min a.quietCount b.quietCount
    peakAmp := max a.peakAmp b.peakAmp
    refGroup := ref (roundDiv xq 16)
    firstCycle := min a.firstCycle b.firstCycle
    confirmCycle := mergeConfirm a.confirmCycle b.confirmCycle
    width := mergeWidth a.width b.width
    acknowledged := a.acknowledged && b.acknowledged }

/-- An accepted CRACK_MERGE of the live records x in slot lo and y in slot hi, lo below hi (R140, R141). -/
def mergeCracks (lo hi : Fin 32) (x y : Crack) (s : State) : State :=
  let z := (x.merge y fun m => zoneOf m s).confirm s
  let t := putCrack hi none (putCrack lo (some z) s)
  noticeRefs [x.refGroup, y.refGroup, z.refGroup] (mark (.crack lo) (mark (.crack hi) t))

end Sys2Proof.Machine
end

