-- ==== Sys2Proof/Machine/Locator.lean ====
section
/-! DEFINITION. The hit locator (chapter 7): the amplitude filter, ages, neighbours, coincidence, pairing, location and
the unpaired-hit slots. -/

namespace Sys2Proof.Machine

/-- APOD p is replaced with no mark: the hit counts and the slot set none (R111). -/
def setAPod (p : Fin 16) (x : APod) (s : State) : State := { s with apods := s.apods.set p x }

/-- A hit with this timestamp is too old at the present hall time (R113). -/
def tooOld (t : Word) (s : State) : Bool :=
  decide ((s.crackset.pairHoldUs : Int) < signedDiff (hallTime s) t)

/-- The slot hit of a pod leaves the locator without a partner (R115, R120, R121). -/
def APod.dropSlot (a : APod) : APod := { a with slot := none, unpaired := satInc max32 a.unpaired }

/-- The slot hit of pod p is expired if it is too old (R115 step 2, R120). -/
def expireSlot (p : Fin 16) (s : State) : State :=
  match s.apods[p].slot with
  | some h => if tooOld h.time s then setAPod p s.apods[p].dropSlot s else s
  | none => s

/-- A frame-end notice: the slot of every pod is examined (R120). -/
def frameEndNotice (s : State) : State := forAll expireSlot s

/-- The slot of pod p is cleared, its hit counted unpaired (R121). -/
def clearSlot (p : Fin 16) (s : State) : State :=
  match s.apods[p].slot with
  | some _ => setAPod p s.apods[p].dropSlot s
  | none => s

/-- The lower neighbour of pod p: the enabled pod with the greatest position below that of p (R114). -/
def lowerNeighbour (p : Fin 16) (s : State) : Option (Fin 16) :=
  (List.finRange 16).foldl (fun best q =>
    if s.apods[q].enabled && decide (s.apods[q].positionMm < s.apods[p].positionMm) then
      match best with
      | none => some q
      | some b => if s.apods[b].positionMm < s.apods[q].positionMm then some q else some b
    else best) none

/-- The upper neighbour of pod p: the enabled pod with the least position above that of p (R114). -/
def upperNeighbour (p : Fin 16) (s : State) : Option (Fin 16) :=
  (List.finRange 16).foldl (fun best q =>
    if s.apods[q].enabled && decide (s.apods[p].positionMm < s.apods[q].positionMm) then
      match best with
      | none => some q
      | some b => if s.apods[q].positionMm < s.apods[b].positionMm then some q else some b
    else best) none

/-- The coincidence window between two positions, in µs (R115). -/
def coincidenceWindow (xp xq waveSpeed guardUs : Nat) : Nat :=
  ceilDiv (((xp : Int) - xq).natAbs * 1000) waveSpeed + guardUs

/-- The distance in time between an arriving hit of pod p and the slot hit of neighbour q, where it is a coincident
candidate (R115 step 3). -/
def coincident (p q : Fin 16) (t : Word) (s : State) : Option Nat :=
  match s.apods[q].slot with
  | none => none
  | some h =>
    let d := (signedDiff t h.time).natAbs
    if d ≤ coincidenceWindow s.apods[p].positionMm s.apods[q].positionMm s.crackset.waveSpeed
        s.crackset.guardUs then some d else none

/-- The partner of an arriving hit: the coincident candidate of least distance in time, the lower neighbour's on a
tie (R116). -/
def choosePartner (p : Fin 16) (t : Word) (lower upper : Option (Fin 16)) (s : State) :
    Option (Fin 16) :=
  match lower.bind fun q => (coincident p q t s).map fun d => (q, d),
      upper.bind fun q => (coincident p q t s).map fun d => (q, d) with
  | none, none => none
  | some (q, _), none => some q
  | none, some (q, _) => some q
  | some (a, d), some (b, e) => if e < d then some b else some a

/-- The position of a located event from the pod A of lower position and the pod B of higher (R118). -/
def locate (xa xb waveSpeed : Nat) (ta tb : Word) : Int :=
  limitTo xa xb (roundDiv (1000 * ((xa : Int) + xb) + waveSpeed * signedDiff ta tb) 2000)

/-- The arriving hit of pod p pairs with the slot hit h of neighbour q, and the located event goes to the crack
table (R116, R118, R119). -/
def pairHits (p q : Fin 16) (t : Word) (amp : Nat) (h : Hit) (s : State) : State :=
  let xp := s.apods[p].positionMm
  let xq := s.apods[q].positionMm
  let x :=
    if xp < xq then locate xp xq s.crackset.waveSpeed t h.time
    else locate xq xp s.crackset.waveSpeed h.time t
  let s1 := setAPod p { s.apods[p] with paired := satInc max32 s.apods[p].paired } s
  let s2 := setAPod q { s1.apods[q] with paired := satInc max32 s1.apods[q].paired, slot := none } s1
  locatedEvent x (max amp h.amp) (lifeOf (zoneOf x s) s) s2

/-- The arriving hit goes into its own pod's slot, displacing a hit that stands there (R117). -/
def holdHit (p : Fin 16) (t : Word) (amp : Nat) (s : State) : State :=
  let t1 := clearSlot p s
  setAPod p { t1.apods[p] with slot := some { time := t, amp := amp } } t1

/-- One hit arrival (R112 to R117). -/
def hitArrival (p : Fin 16) (h : Hit) (s : State) : State :=
  let a := { s.apods[p] with received := satInc max32 s.apods[p].received }
  if h.amp < s.crackset.minAmpDb then
    setAPod p { a with belowAmp := satInc max32 a.belowAmp } s
  else
    let a := { a with accepted := satInc max32 a.accepted }
    if tooOld h.time s then setAPod p { a with unpaired := satInc max32 a.unpaired } s
    else
      let t := setAPod p a s
      let lower := lowerNeighbour p t
      let upper := upperNeighbour p t
      let t := (lower.map fun q => expireSlot q t).getD t
      let t := (upper.map fun q => expireSlot q t).getD t
      match choosePartner p h.time lower upper t with
      | none => holdHit p h.time h.amp t
      | some q =>
        match t.apods[q].slot with
        | some k => pairHits p q h.time h.amp k t
        | none => holdHit p h.time h.amp t

end Sys2Proof.Machine
end

