-- ==== Sys2Proof/Machine/AcousticLine.lean ====
section
/-! DEFINITION. The acoustic line master (chapter 6): slots, POLL and TIME frames, sweeps, poll outcomes, frame ends, the
stuck line and what a RESTART does to the line. -/

namespace Sys2Proof.Machine

/-- The enabled pod of lowest id above a pod, or of lowest id where no pod is given (R98). -/
def enabledAbove (lim : Option (Fin 16)) (s : State) : Option (Fin 16) :=
  (List.finRange 16).find? fun q =>
    s.apods[q].enabled && (match lim with
      | none => true
      | some l => decide (l < q))

/-- Step 2 of R98: the next pod of the round-robin. -/
def roundRobin (s : State) : Option (Fin 16) :=
  match enabledAbove (some s.line.rr) s with
  | some q => some q
  | none => enabledAbove none s

/-- The sweep's next pod, where a sweep is in progress and has one left (R98 step 1). -/
def sweepNext (s : State) : Option (Fin 16) :=
  match s.line.sweep with
  | .off => none
  | .on last => enabledAbove last s

/-- A frame ends (R96, R101): the next slot opens at the later of poll_interval_us after its beginning and 20 µs
after its end, and the locator gets its frame-end notice. -/
def frameEnd (began : Nat) (s : State) : State :=
  frameEndNotice (setLine
    { s.line with
      frame := .idle
      nextSlot := max (began + us s.crackset.pollIntervalUs) (s.clk + us 20) } s)

/-- The frame of a slot begins on a recessive line (R93, R94, R95). -/
def beginPoll (p : Fin 16) (s : State) : State :=
  setLine { s.line with frame := .poll p s.clk true } s

/-- A TIME frame begins; its due state ends (R95, R97). -/
def beginTime (s : State) : State :=
  setLine { s.line with frame := .time s.clk, timeDue := false } s

/-- The pod a slot without a TIME frame polls, with the sweep and the round-robin position as the choice leaves
them (R98). -/
def choosePoll (s : State) : Option (Fin 16) × Sweep × Fin 16 :=
  match sweepNext s with
  | some q => (some q, .on (some q), s.line.rr)
  | none =>
    match roundRobin s with
    | some q => (some q, .off, q)
    | none => (none, .off, s.line.rr)

/-- A slot without a TIME frame takes its choice (R98): a POLL begins or, on a dominant line, waits (R93); with no
pod enabled the slot is empty and begins and ends at its slot time (R96). -/
def openPollSlot (dominant : Bool) (s : State) : State :=
  let before := s.line.rr
  match choosePoll s with
  | (some q, sw, rr) =>
    let t := setLine { s.line with sweep := sw, rr := rr } s
    if dominant then setLine { t.line with frame := .held (.poll q before) } t else beginPoll q t
  | (none, sw, rr) => frameEnd s.clk (setLine { s.line with sweep := sw, rr := rr } s)

/-- A slot opens (R96 to R98). -/
def openSlot (dominant : Bool) (s : State) : State :=
  if s.line.timeDue then
    if dominant then setLine { s.line with frame := .held .time } s else beginTime s
  else openPollSlot dominant s

/-- A held frame begins when the line returns recessive (R93). A POLL keeps its pod; a slot whose level was a request
pulse, and a POLL whose pod has been disabled meanwhile (assumption log 7), is chosen again. DESIGN CHOICE
(assumption log 29): with no pod enabled by then, the slot time of that empty slot (R96) is the present clock, at which the
line has returned recessive, not the time at which the slot had opened. -/
def beginHeld (f : HeldFrame) (s : State) : State :=
  match f with
  | .time => beginTime s
  | .poll q before =>
    if s.apods[q].enabled then beginPoll q s
    else openPollSlot false (setLine { s.line with rr := before } s)
  | .again => openPollSlot false s

/-- A counted poll of an enabled pod (R102). -/
def APod.polled (a : APod) (o : PollOutcome) : APod :=
  match o with
  | .none => a
  | .good => { a with consecutiveFails := 0, state := .ok, lastOutcome := .good }
  | .silent | .contention =>
    let n := satInc 255 a.consecutiveFails
    { a with
      consecutiveFails := n
      state := if 8 ≤ n then .lost else a.state
      lastOutcome := o }
  | .gap | .frameError | .badCheck =>
    let n := satInc 255 a.consecutiveFails
    { a with
      consecutiveFails := n
      state := if 8 ≤ n then .lost else a.state
      lastOutcome := o
      frameErrors := satInc max32 a.frameErrors }

/-- A poll of pod p reaches an outcome: counted unless the pod was disabled in flight (R102). -/
def pollOutcome (p : Fin 16) (counted : Bool) (o : PollOutcome) (s : State) : State :=
  if counted && s.apods[p].enabled then putAPod p (s.apods[p].polled o) s else s

/-- The quiet wait after a failed reply or a contention begins (R101). -/
def beginQuiet (began : Nat) (s : State) : State :=
  setLine { s.line with frame := .quiet began s.clk } s

/-- The hits of a reply: five bytes each, a timestamp and an amplitude (R99, R187). The first argument bounds the
number of hits. -/
def replyHits : Nat → List Byte → List Hit
  | 0, _ => []
  | n + 1, a :: b :: c :: d :: e :: rest =>
    { time := BitVec.ofNat 32 (((a.toNat * 256 + b.toNat) * 256 + c.toNat) * 256 + d.toNat)
      amp := e.toNat } :: replyHits n rest
  | _ + 1, _ => []

/-- The judgement of a complete reply, in the order of R100. -/
def judgeReply (reply : List Byte) : PollOutcome :=
  if crc8 reply.dropLast ≠ reply.getLastD 0 then .badCheck
  else if (replyHits 6 reply.tail.dropLast).any fun h => decide (100 < h.amp) then .frameError
  else .good

/-- A GOOD reply of an enabled pod is counted, its overflow flag too, and its hits handed on one by one (R100). -/
def goodReply (p : Fin 16) (reply : List Byte) (s : State) : State :=
  let t := pollOutcome p true .good s
  let t :=
    if 128 ≤ (reply.headD 0).toNat then
      setAPod p { t.apods[p] with podOverflows := satInc max32 t.apods[p].podOverflows } t
    else t
  (replyHits 6 reply.tail.dropLast).foldl (fun u h => hitArrival p h u) t

/-- A complete reply to the POLL of pod p is judged (R100 to R102). -/
def takeReply (p : Fin 16) (began : Nat) (counted : Bool) (reply : List Byte) (s : State) : State :=
  match judgeReply reply with
  | .good =>
    frameEnd began (if counted && s.apods[p].enabled then goodReply p reply s else s)
  | o => beginQuiet began (pollOutcome p counted o s)

/-- The line is idle: between frames, a held frame start included (R103). -/
def lineIdle (s : State) : Bool :=
  match s.line.frame with
  | .idle | .held _ | .settling _ => true
  | .time _ | .poll _ _ _ | .quiet _ _ => false

/-- A request pulse on the idle line starts a sweep where none is in progress; a POLL it held back is chosen again,
with the round-robin position as before its slot (R93, R103). -/
def requestSweep (s : State) : State :=
  match s.line.sweep with
  | .on _ => s
  | .off =>
    match s.line.frame with
    | .held (.poll _ before) =>
      setLine { s.line with sweep := .on none, rr := before, frame := .held .again } s
    | _ => setLine { s.line with sweep := .on none } s

/-- line_state takes a value; a change sets the CRACKSET mark (R108). -/
def setLineState (x : LineState) (s : State) : State :=
  markIf (x != s.crackset.lineState) .crackset
    { s with crackset := { s.crackset with lineState := x } }

/-- Entry to STUCK (R104): a frame in flight ends, a sweep ends, a held POLL leaves the round-robin position as it
stood before its slot, a TIME frame due stays due. -/
def enterStuck (s : State) : State :=
  let t := setLineState .stuck s
  match t.line.frame with
  | .time _ | .poll _ _ _ | .quiet _ _ =>
    frameEndNotice (setLine
      { t.line with sweep := .off, frame := .idle, stuckSince := t.clk } t)
  | .held (.poll _ before) =>
    setLine { t.line with sweep := .off, frame := .idle, rr := before, stuckSince := t.clk } t
  | .idle | .held .time | .held .again | .settling _ =>
    setLine { t.line with sweep := .off, frame := .idle, stuckSince := t.clk } t

/-- What a RESTART does to the line master and the locator's slots (R109, R121). -/
def restartLine (s : State) : State :=
  let t := setLine
    { s.line with
      rr := 15
      sweep := .off
      frame := if s.crackset.lineState = .stuck then .idle else .settling s.clk } s
  forAll clearSlot t

/-- A pod that a WRITE enables (R106). -/
def APod.enable (a : APod) : APod := { a with enabled := true, state := .ok, consecutiveFails := 0 }

/-- A pod that a WRITE disables (R106); its slot is cleared by clearSlot (R121). -/
def APod.disable (a : APod) : APod :=
  { a with enabled := false, state := .disabled, consecutiveFails := 0 }

/-- A poll of pod p in flight is not counted any more: the pod has been disabled (R102). -/
def uncountPoll (p : Fin 16) (s : State) : State :=
  match s.line.frame with
  | .poll q began _ =>
    if q = p then setLine { s.line with frame := .poll q began false } s else s
  | .idle | .held _ | .time _ | .quiet _ _ | .settling _ => s

end Sys2Proof.Machine
end

