-- ==== Sys2Proof/Decode.lean ====
section
/-! DEFINITION. Decoding. spec/opcode_table.json gives its rows no bits, so decodeTableWord reads no command from
a word. What the block does decode is the request frames of the request port: Table 11-3 (kind codes), Table 11-4
(field widths), the items of R185, and Table 11-6 (request codes and payloads), with the encoder of the same
tables beside it; and the bits of the acoustic line (R91, R99). -/

namespace Sys2Proof

/-- The command a table word spells: none, since no row of spec/opcode_table.json gives bits (assumption log 4). -/
def decodeTableWord (_nbits _w : Nat) : Option Instr := none

/-- Table 11-3: the kind code. -/
def Kind.code : Kind → Nat
  | .hall => 0 | .ram => 1 | .group => 2 | .step => 3 | .plan => 4 | .gauge => 5
  | .gpod => 6 | .apod => 7 | .crackset => 8 | .crack => 9 | .limit => 10

/-- Table 11-3 read backwards; a code beyond the last kind names none. -/
def Kind.ofCode : Nat → Option Kind
  | 0 => some .hall | 1 => some .ram | 2 => some .group | 3 => some .step | 4 => some .plan
  | 5 => some .gauge | 6 => some .gpod | 7 => some .apod | 8 => some .crackset | 9 => some .crack
  | 10 => some .limit | _ => none

/-- Table 0-1: how many records, and so how many keys, a kind has. -/
def Kind.count : Kind → Nat
  | .hall => 1 | .ram => 8 | .group => 4 | .step => 64 | .plan => 1 | .gauge => 48
  | .gpod => 12 | .apod => 16 | .crackset => 1 | .crack => 32 | .limit => 24

/-- Table 11-4: the widths in bytes of a kind's fields, in order from field 1. -/
def Kind.widths : Kind → List Nat
  | .hall => [1, 1, 2, 2, 2, 2, 1, 2, 4, 4, 1, 1, 2, 2, 2, 2, 4]
  | .ram => [1, 1, 1, 2, 4, 2, 4, 4, 4, 4, 2, 4, 4, 4, 4, 2, 2, 1, 4, 4, 2, 4, 2, 4, 1, 4, 1]
  | .group => [1, 1, 1, 1, 4, 4, 4, 4, 4, 4, 1, 4, 4, 4, 1, 1, 2]
  | .step => [1, 4, 4, 4, 4, 4, 2, 4]
  | .plan => [1, 1, 1, 2, 1, 1, 1, 1, 4, 4, 1, 4, 4, 4, 1, 1, 1, 1]
  | .gauge => [1, 2, 1, 4, 1, 4, 4, 4, 4, 1]
  | .gpod => [1, 1, 4, 4, 4, 4, 1]
  | .apod => [1, 4, 1, 1, 1, 4, 4, 4, 4, 4, 4, 4, 5]
  | .crackset => [2, 1, 4, 1, 4, 2, 2, 2, 1, 4, 2, 1, 1, 4]
  | .crack => [1, 4, 4, 4, 4, 2, 2, 1, 1, 1, 4, 4, 2, 4, 1]
  | .limit => [1, 1, 1, 1, 1, 1, 4, 4, 1, 1, 2, 1, 1, 1, 1, 4]

/-- The width of field number f (from 1) of a kind, or none where the kind has no such field (R185). -/
def Kind.width? (k : Kind) (f : Nat) : Option Nat :=
  if f = 0 then none else k.widths[f - 1]?

/-- Bytes sent most significant first, as an unsigned number (chapter 11, opening). -/
def beNat (bs : List Byte) : Nat := bs.foldl (fun a b => a * 256 + b.toNat) 0

/-- An unsigned number in w bytes, most significant first; higher bytes are dropped. -/
def beBytes : Nat → Nat → List Byte
  | 0, _ => []
  | w + 1, v => beBytes w (v / 256) ++ [BitVec.ofNat 8 v]

/-- The field numbers and value bytes of an item run (R185) up to the first field the kind does not have or the
first incomplete item. The first argument bounds the number of items. -/
def splitItems (k : Kind) : Nat → List Byte → List (Nat × List Byte)
  | 0, _ => []
  | _ + 1, [] => []
  | n + 1, f :: rest =>
    match k.width? f.toNat with
    | none => []
    | some w => if rest.length < w then [] else (f.toNat, rest.take w) :: splitItems k n (rest.drop w)

/-- An item run of a WRITE names field f. -/
def namesField (k : Kind) (f : Nat) (items : List Byte) : Bool :=
  (splitItems k items.length items).any fun p => p.1 == f

/-- An item run of a WRITE carries the value v for field f. -/
def carriesValue (k : Kind) (f v : Nat) (items : List Byte) : Bool :=
  (splitItems k items.length items).any fun p => p.1 == f && beNat p.2 == v

/-- A reply that reached its check byte is 5h + 2 bytes long, for the hit count h in bits 0 to 2 of its first
byte; an h of 7 never reaches a check byte (R99). -/
def replyComplete (reply : List Byte) : Bool :=
  match reply with
  | [] => false
  | c :: _ => decide (c.toNat % 8 ≤ 6) && decide (reply.length = 5 * (c.toNat % 8) + 2)

/-! ## The links that send the most significant bit first (R166, R187) -/

/-- The byte of eight levels, the first the most significant bit (R166, R187). -/
def msbByte (bits : List Bool) : Byte := BitVec.ofNat 8 (bits.foldl (fun n b => 2 * n + b.toNat) 0)

/-- The levels of a byte in the order in which they are sent, the most significant bit first (R166, R187). -/
def msbBits (b : Byte) : List Bool := (List.range 8).map fun j => b.getMsbD j

/-- The 14 bytes of a pod's reply from the levels of SDA in their bits (R68, R187). -/
def podBytes (sda : Vector Bool 112) : Vector Byte 14 :=
  Vector.ofFn fun i => msbByte ((sda.toList.drop (8 * i.val)).take 8)

/-- The whole bytes that the port assembles from the levels of SDI at the rising edges of SCK; the bits of a byte still
incomplete are discarded (R166). -/
def spiBytes (sdi : List Bool) : List Byte :=
  (List.range (sdi.length / 8)).map fun i => msbByte ((sdi.drop (8 * i)).take 8)

/-! ## The acoustic line (R91, R99) -/

/-- The ten bits of a byte on the acoustic line, the first in bit 0: a dominant start bit, the data bits with the least
significant first, a recessive stop bit; 0 is dominant (R91). -/
def lineBits (b : Byte) : LineFall := (1#1 ++ b) ++ 0#1

/-- The start bit reads recessive at its middle: the fall is a glitch (R91). -/
def LineFall.glitch (f : LineFall) : Bool := f.getLsbD 0

/-- The stop bit reads dominant at its middle: a framing fault (R91). -/
def LineFall.framingFault (f : LineFall) : Bool := !f.getLsbD 9

/-- The eight data bits of a fall (R91). -/
def LineFall.byte (f : LineFall) : Byte := f.extractLsb' 1 8

/-- What reception of a reply has come to (R99): it waits for a further byte after these; it has failed at its n-th byte,
by a framing fault or a hit count of 7; or all bytes up to the check byte have been received. -/
inductive Reception where
  | waiting (bytes : List Byte)
  | failed (n : Nat)
  | complete (bytes : List Byte)
  deriving DecidableEq, Repr

/-- The receiver takes one fall: a glitch is discarded, a byte is taken, and after an outcome nothing more is (R91,
R99). -/
def Reception.take (r : Reception) (f : LineFall) : Reception :=
  match r with
  | .waiting bytes =>
    if LineFall.glitch f then .waiting bytes
    else if LineFall.framingFault f then .failed (bytes.length + 1)
    else
      let bytes := bytes ++ [LineFall.byte f]
      if (bytes.headD 0).toNat % 8 = 7 then .failed bytes.length
      else if replyComplete bytes then .complete bytes else .waiting bytes
  | .failed n => .failed n
  | .complete bytes => .complete bytes

/-- The falls of the line since a poll, received in their order (R99). -/
def receive (falls : List LineFall) : Reception := falls.foldl Reception.take (.waiting [])

/-! ## Requests (Table 11-6) -/

/-- Table 11-6, encoding: the request code and payload that carry a request command, and none for a command that
is no request. All rows for a WRITE of one record carry the one WRITE request (R178). -/
def requestOf : Instr → Option Request
  | .identify => some ⟨0x01, []⟩
  | .read kind key => some ⟨0x02, [kind, key]⟩
  | .write kind key items => some ⟨0x03, kind :: key :: items⟩
  | .stepWrite kind key items => some ⟨0x03, kind :: key :: items⟩
  | .seatLoadWrite group items => some ⟨0x03, 2 :: group :: items⟩
  | .zoneWrite group items => some ⟨0x03, 2 :: group :: items⟩
  | .gaugeEnable gauge items => some ⟨0x03, 5 :: gauge :: items⟩
  | .gaugeDisable gauge items => some ⟨0x03, 5 :: gauge :: items⟩
  | .apodEnable pod items => some ⟨0x03, 7 :: pod :: items⟩
  | .apodDisable pod items => some ⟨0x03, 7 :: pod :: items⟩
  | .planWrite key items => some ⟨0x03, 4 :: key :: items⟩
  | .pwmPeriodWrite key items => some ⟨0x03, 0 :: key :: items⟩
  | .attentionMaskWrite key items => some ⟨0x03, 0 :: key :: items⟩
  | .limitDefine slot items => some ⟨0x03, 10 :: slot :: items⟩
  | .limitEdit slot items => some ⟨0x03, 10 :: slot :: items⟩
  | .limitEnable slot items => some ⟨0x03, 10 :: slot :: items⟩
  | .limitDisable slot items => some ⟨0x03, 10 :: slot :: items⟩
  | .listChanged none => some ⟨0x04, []⟩
  | .listChanged (some (kind, key)) => some ⟨0x04, [kind, key]⟩
  | .restart => some ⟨0x05, []⟩
  | .groupRunResume group => some ⟨0x20, [group, 0x80]⟩
  | .groupRunFromStep group form => some ⟨0x20, [group, form]⟩
  | .groupPauseNow group => some ⟨0x21, [group, 0]⟩
  | .groupPauseAtCycleEnd group => some ⟨0x21, [group, 1]⟩
  | .groupUnload group => some ⟨0x22, [group]⟩
  | .groupRelease group => some ⟨0x23, [group]⟩
  | .ramStart ram => some ⟨0x30, [ram]⟩
  | .ramStop ram => some ⟨0x31, [ram]⟩
  | .ramClear ram => some ⟨0x32, [ram]⟩
  | .gaugeRound => some ⟨0x40, []⟩
  | .gaugeArmDisarm => some ⟨0x41, [0]⟩
  | .gaugeArmArm => some ⟨0x41, [1]⟩
  | .gaugeZero sel => some ⟨0x42, [sel]⟩
  | .peakReset sel => some ⟨0x43, [sel]⟩
  | .podCountersClear sel => some ⟨0x50, [sel]⟩
  | .findCrack x => some ⟨0x60, beBytes 4 x.toNat⟩
  | .crackAck slot => some ⟨0x61, [slot]⟩
  | .crackWidth slot width => some ⟨0x62, slot :: beBytes 2 width.toNat⟩
  | .crackRetire slot => some ⟨0x63, [slot]⟩
  | .crackMerge a b => some ⟨0x64, [a, b]⟩
  | .limitAck slot => some ⟨0x70, [slot]⟩
  | .limitRetire slot => some ⟨0x71, [slot]⟩
  | .resetAssert | .powerOnReset _ _ | .controlTick | .sampleSet _ | .pulsePeriodStart
  | .estopAssert | .estopRelease | .hpuReadyFall | .hpuReadyRise | .selFall | .selRise _
  | .restartComplete | .intervalTimerExpiry | .cyclicStart | .delayExpiry | .latchBroadcastDone _ _
  | .latchWaitExpiry | .podReadDone _ | .stretchTimeout | .busClearDone _ | .timeFrameDue
  | .slotOpen _ | .contention | .replyTimeout _ | .replyFrameError | .replyReceived _
  | .quietWaitEnd | .requestPulse _ | .lineStuck | .lineRecovered | .timeFrameEnd
  | .heldFrameBegin => none

/-- What the port makes of a good frame's request (R172, R186): a command for the block that owns it, or a
refusal that no block sees. -/
inductive Taken where
  | command (c : Instr)
  | refused (st : Status)
  deriving DecidableEq, Repr

/-- Table 11-6, decoding: the command a request carries; UNKNOWN for a code that is not one of the part's, BAD_VALUE
for a payload of another length or form (R172, R186). A GROUP_PAUSE checks its key before its form (R14). A WRITE
decodes to the row WRITE; the other WRITE rows are the same request under the name of what it does. -/
def decodeRequest (q : Request) : Taken :=
  match q.code.toNat with
  | 0x01 => match q.payload with
    | [] => .command .identify
    | _ => .refused .badValue
  | 0x02 => match q.payload with
    | [kind, key] => .command (.read kind key)
    | _ => .refused .badValue
  | 0x03 => match q.payload with
    | kind :: key :: items => .command (.write kind key items)
    | _ => .refused .badValue
  | 0x04 => match q.payload with
    | [] => .command (.listChanged none)
    | [kind, key] => .command (.listChanged (some (kind, key)))
    | _ => .refused .badValue
  | 0x05 => match q.payload with
    | [] => .command .restart
    | _ => .refused .badValue
  | 0x20 => match q.payload with
    | [group, form] =>
      .command (if form = 0x80 then .groupRunResume group else .groupRunFromStep group form)
    | _ => .refused .badValue
  | 0x21 => match q.payload with
    | [group, form] =>
      if form = 0 then .command (.groupPauseNow group)
      else if form = 1 then .command (.groupPauseAtCycleEnd group)
      else .refused (if group.toNat ≤ 3 then .badValue else .badKey)
    | _ => .refused .badValue
  | 0x22 => match q.payload with
    | [group] => .command (.groupUnload group)
    | _ => .refused .badValue
  | 0x23 => match q.payload with
    | [group] => .command (.groupRelease group)
    | _ => .refused .badValue
  | 0x30 => match q.payload with
    | [ram] => .command (.ramStart ram)
    | _ => .refused .badValue
  | 0x31 => match q.payload with
    | [ram] => .command (.ramStop ram)
    | _ => .refused .badValue
  | 0x32 => match q.payload with
    | [ram] => .command (.ramClear ram)
    | _ => .refused .badValue
  | 0x40 => match q.payload with
    | [] => .command .gaugeRound
    | _ => .refused .badValue
  | 0x41 => match q.payload with
    | [form] =>
      if form = 0 then .command .gaugeArmDisarm
      else if form = 1 then .command .gaugeArmArm
      else .refused .badValue
    | _ => .refused .badValue
  | 0x42 => match q.payload with
    | [sel] => .command (.gaugeZero sel)
    | _ => .refused .badValue
  | 0x43 => match q.payload with
    | [sel] => .command (.peakReset sel)
    | _ => .refused .badValue
  | 0x50 => match q.payload with
    | [sel] => .command (.podCountersClear sel)
    | _ => .refused .badValue
  | 0x60 => match q.payload with
    | [a, b, c, d] => .command (.findCrack (BitVec.ofNat 32 (beNat [a, b, c, d])))
    | _ => .refused .badValue
  | 0x61 => match q.payload with
    | [slot] => .command (.crackAck slot)
    | _ => .refused .badValue
  | 0x62 => match q.payload with
    | [slot, a, b] => .command (.crackWidth slot (BitVec.ofNat 16 (beNat [a, b])))
    | _ => .refused .badValue
  | 0x63 => match q.payload with
    | [slot] => .command (.crackRetire slot)
    | _ => .refused .badValue
  | 0x64 => match q.payload with
    | [a, b] => .command (.crackMerge a b)
    | _ => .refused .badValue
  | 0x70 => match q.payload with
    | [slot] => .command (.limitAck slot)
    | _ => .refused .badValue
  | 0x71 => match q.payload with
    | [slot] => .command (.limitRetire slot)
    | _ => .refused .badValue
  | _ => .refused .unknown

/-- The command that the port makes of a request: a WRITE under whatever name is the WRITE (R178). -/
def asTaken : Instr → Instr
  | .stepWrite kind key items => .write kind key items
  | .seatLoadWrite group items => .write 2 group items
  | .zoneWrite group items => .write 2 group items
  | .gaugeEnable gauge items => .write 5 gauge items
  | .gaugeDisable gauge items => .write 5 gauge items
  | .apodEnable pod items => .write 7 pod items
  | .apodDisable pod items => .write 7 pod items
  | .planWrite key items => .write 4 key items
  | .pwmPeriodWrite key items => .write 0 key items
  | .attentionMaskWrite key items => .write 0 key items
  | .limitDefine slot items => .write 10 slot items
  | .limitEdit slot items => .write 10 slot items
  | .limitEnable slot items => .write 10 slot items
  | .limitDisable slot items => .write 10 slot items
  | c => c

end Sys2Proof
end

