-- ==== Sys2Proof/Machine/Gauges.lean ====
section
/-! DEFINITION. The gauge records (chapter 5): strain conversion, readings, misses, gauge states and what they hand
to the limit table. -/

namespace Sys2Proof.Machine

/-- The bridge factor k (Table 5-1). -/
def Bridge.factor : Bridge → Nat
  | .quarter => 4 | .half => 2 | .full => 1

/-- The strain of a count, in 0.1 µε (R80). -/
def strainOf (b : Bridge) (gfMilli : Nat) (zero c : Int) : Int :=
  roundDiv (b.factor * (c - zero) * 10 ^ 10) (2 ^ 30 * gfMilli)

/-- The pod of a gauge (section 5, opening). -/
def podOf (k : Fin 48) : Fin 12 := ⟨k.val / 4, by omega⟩

/-- The gauge of a pod's channel. -/
def gaugeOf (p : Fin 12) (i : Fin 4) : Fin 48 := ⟨p.val * 4 + i.val, by omega⟩

/-- A pod is in use when one of its gauges is enabled (R79, R85). -/
def podInUse (p : Fin 12) (s : State) : Bool :=
  (List.finRange 4).any fun i => s.gauges[gaugeOf p i].enabled

/-- A GAUGE record is replaced. A change of its state sets its mark (R89) and is handed to the limit table, which
evaluates the limits on that gauge (R88). -/
def putGauge (k : Fin 48) (x : Gauge) (s : State) : State :=
  let t : State := { s with gauges := s.gauges.set k x }
  if x.state = s.gauges[k].state then t
  else evalWhere (Limit.isGaugeOf k) (mark (.gauge k) t)

/-- Strain and peaks after a converted reading (R81 step 3). -/
def widen (old : Option Strain) (e : Int) : Strain :=
  match old with
  | none => { now := e, peakMax := e, peakMin := e }
  | some x => { now := e, peakMax := max x.peakMax e, peakMin := min x.peakMin e }

/-- An enabled gauge takes its channel's count and overrange bit from a good reading (R81 to R83). -/
def Gauge.reading (g : Gauge) (c : Int) (flagged : Bool) : Gauge :=
  if flagged then { g with count := some c, state := .overrange }
  else if g.zeroPending then
    { g with
      count := some c
      zero := max c (-8388607)
      strain := some { now := 0, peakMax := 0, peakMin := 0 }
      zeroPending := false
      state := .ok }
  else
    { g with
      count := some c
      strain := some (widen g.strain (strainOf g.bridge g.gfMilli g.zero c))
      state := .ok }

/-- GPOD p counts a reading (R84, R85). -/
def GPod.read (x : GPod) : GPod := { x with consecutiveMisses := 0, reads := satInc max32 x.reads }

/-- GPOD p counts a miss by its reason (R84, R85). -/
def GPod.missed (x : GPod) (why : MissReason) : GPod :=
  { x with
    consecutiveMisses := satInc 255 x.consecutiveMisses
    misses := satInc max32 x.misses
    badChecks := if why = .badCheck then satInc max32 x.badChecks else x.badChecks
    stretchTimeouts := if why = .stretch then satInc max32 x.stretchTimeouts else x.stretchTimeouts
    lastMiss := why }

/-- A pod is handed over as read, with its status byte and four counts (R81, R84): its enabled gauges in channel
order, then its GPOD record. -/
def handRead (p : Fin 12) (flagged : Fin 4 → Bool) (count : Fin 4 → Int) (s : State) : State :=
  let t := forAll (fun (i : Fin 4) t =>
    let g := t.gauges[gaugeOf p i]
    if g.enabled then putGauge (gaugeOf p i) (g.reading (count i) (flagged i)) t else t) s
  { t with gpods := t.gpods.set p t.gpods[p].read }

/-- A gauge of a pod whose run of misses stands at or above stale_limit (R84). -/
def Gauge.aged (g : Gauge) : Gauge :=
  match g.state with
  | .waiting | .ok | .overrange => { g with state := .stale }
  | .disabled | .stale => g

/-- A pod is handed over as missed (R84, R89): its GPOD record counts, and its gauges may become STALE. -/
def handMiss (p : Fin 12) (why : MissReason) (s : State) : State :=
  let x := s.gpods[p].missed why
  let t := markIf (s.gpods[p].consecutiveMisses == 0) (.gpod p)
    { s with gpods := s.gpods.set p x }
  if s.hall.staleLimit ≤ x.consecutiveMisses then
    forAll (fun (i : Fin 4) t =>
      let g := t.gauges[gaugeOf p i]
      if g.enabled then putGauge (gaugeOf p i) g.aged t else t) t
  else t

/-- A gauge that a WRITE enables: WAITING, holding nothing (R79). -/
def Gauge.enable (g : Gauge) : Gauge :=
  { g with
    enabled := true
    state := .waiting
    count := none
    strain := none
    zeroPending := false }

/-- A gauge that a WRITE disables (R79). -/
def Gauge.disable (g : Gauge) : Gauge :=
  { g with
    enabled := false
    state := .disabled
    count := none
    strain := none
    zeroPending := false }

/-- Both peaks become the present strain; absent peaks stay absent (R87). -/
def Gauge.resetPeaks (g : Gauge) : Gauge :=
  { g with strain := g.strain.map fun x => { x with peakMax := x.now, peakMin := x.now } }

end Sys2Proof.Machine
end

