-- ==== Sys2Proof/Machine/Rounds.lean ====
section
/-! DEFINITION. The round plan and the gauge bus (chapter 4): triggers, the states of a round, its handovers and its
completion. -/

namespace Sys2Proof.Machine

/-- A bus activity begins at a count of REFCLK (R60 to R62); no WRITE of stretch_limit_us has come since (R61). -/
def busBegin (start : Nat) (r : Round) : Round := { r with busStart := start, limitWrites := [] }

/-- The STOP of a transaction or of a bus clear has been sent: the bus is free for the next START one bit time later
(R60). That bit time is counted at the rate of the STOP, whatever bus_speed a WRITE in IDLE sets before the next round
(DESIGN CHOICE, assumption log 25: R60 does not say). -/
def stopSent (s : State) : State := setRound { s.round with busFree := s.clk + busBit s } s

/-- The latch broadcast starts (R65): hall time, and G_N and life_cycles of the round's group (R72), are captured at its
START, which comes one bit time after the latest STOP at the earliest (R60). -/
def latchStart (s : State) : State :=
  let t := passTo (startTime s) s
  let g := t.groups[t.round.group]
  setRound
    (busBegin t.clk
      { t.round with
        latchTime := hallTime t
        trigCommand := g.newtons
        trigLifeCycles := g.lifeCycles })
    (setPlan { t.plan with roundState := .latch } t)

/-- A bus clear begins (R62): it has no START, so it waits for no STOP. -/
def clearStart (why : ClearReason) (s : State) : State :=
  setRound (busBegin s.clk { s.round with clearFor := why })
    (setPlan { s.plan with roundState := .clear } s)

/-- A round with no delay, or whose delay is over, goes on to CLEAR or LATCH (R63, R64). -/
def roundGoesOn (s : State) : State :=
  if s.plan.busState = .fault then clearStart .start s else latchStart s

/-- A round begins: its trigger kind and pod list are fixed (R63), and its group, which a WRITE of trig_group does not
change any more (R72). A trigger with delay_periods above 0 enters DELAY;
a GAUGE_ROUND does not (R75). -/
def roundStart (kind : TriggerKind) (delayed : Bool) (s : State) : State :=
  let pods := (List.finRange 12).filter fun p => podInUse p s
  let t := setRound
    { s.round with
      kind := kind
      group := s.plan.trigGroup
      pods := pods
      todo := pods
      latchAnswered := false
      podsRead := 0
      podsMissed := 0
      cyclicDue := false
      restarting := false } s
  if delayed && decide (0 < s.plan.delayPeriods) then
    setRound { t.round with delayCount := s.plan.delayPeriods }
      (setPlan { t.plan with roundState := .delay } t)
  else roundGoesOn t

/-- armed takes a value; a change sets the PLAN mark (R76). -/
def setArmed (b : Bool) (s : State) : State :=
  markIf (b != s.plan.armed) .plan (setPlan { s.plan with armed := b } s)

/-- The interval timer is restarted (R73). -/
def restartTimer (s : State) : State :=
  setRound { s.round with intervalCount := 2 * s.plan.intervalMs } s

/-- A PEAK, TROUGH or TIMED trigger reaches the round plan (R73). -/
def trigger (kind : TriggerKind) (s : State) : State :=
  if s.plan.mode = .cyclic then s
  else if s.plan.armed = false then s
  else if s.plan.roundState ≠ .idle then
    markIf (s.plan.missedTriggers == 0) .plan
      (setPlan { s.plan with missedTriggers := satInc max32 s.plan.missedTriggers } s)
  else
    roundStart kind true (if s.plan.mode = .single then setArmed false s else s)

/-- A PEAK of group g reaches the round plan: a trigger when g is trig_group and source is PEAK or BOTH (R73). -/
def peakTrigger (g : Fin 4) (s : State) : State :=
  if g = s.plan.trigGroup ∧ (s.plan.source = .peak ∨ s.plan.source = .both) then trigger .peak s
  else s

/-- A TROUGH of group g reaches the round plan (R73). -/
def troughTrigger (g : Fin 4) (s : State) : State :=
  if g = s.plan.trigGroup ∧ (s.plan.source = .trough ∨ s.plan.source = .both) then trigger .trough s
  else s

/-- A round completes (R71): the summary is written, the limits on gauges of the round's pods are evaluated,
round_state becomes IDLE and, in mode CYCLIC, the rest begins (R74). An abort sets the PLAN mark (R76). -/
def completeRound (aborted : Bool) (s : State) : State :=
  let t := markIf aborted .plan (setPlan
    { s.plan with
      roundNumber := satInc max32 s.plan.roundNumber
      trigger := s.round.kind
      latchTime := s.round.latchTime
      trigCommand := s.round.trigCommand
      trigLifeCycles := s.round.trigLifeCycles
      latchAnswered := s.round.latchAnswered
      aborted := aborted
      podsRead := s.round.podsRead
      podsMissed := s.round.podsMissed } s)
  let t := evalWhere (Limit.isGaugeOfPods s.round.pods) t
  let t := setPlan { t.plan with roundState := .idle } t
  if t.plan.mode = .cyclic then setRound { t.round with restFlag := true } t else t

/-- A pod of the round in flight is handed over as missed and counted (R69, R71). -/
def roundMiss (p : Fin 12) (why : MissReason) (s : State) : State :=
  let t := handMiss p why s
  setRound { t.round with podsMissed := t.round.podsMissed + 1 } t

/-- Every pod of a list is handed over as missed with the reason FAULT (R63, R66, R70). -/
def missAll (ps : List (Fin 12)) (s : State) : State :=
  ps.foldl (fun t p => roundMiss p .fault t) s

/-- The pod being read has been handed over, or missed, and the bus is free: the next read begins one bit time after
the STOP, or the round completes (R68, R70, R71). -/
def nextPod (s : State) : State :=
  let rest := s.round.todo.tail
  let t := setRound { s.round with todo := rest } s
  if rest.isEmpty then completeRound false t
  else
    setRound (busBegin (startTime t) t.round) (setPlan { t.plan with roundState := .read } t)

/-- WAIT is entered: it ends latch_wait_us after the STOP (R67). -/
def enterWait (s : State) : State :=
  setRound { s.round with waitEnds := s.clk + us s.hall.latchWaitUs }
    (setPlan { s.plan with roundState := .wait } s)

/-- bus_state takes the outcome of a bus clear; a change sets the PLAN mark (R62, R76). -/
def setBusState (b : BusState) (s : State) : State :=
  markIf (b != s.plan.busState) .plan (setPlan { s.plan with busState := b } s)

/-- A round that a RESTART is ending has ended: no summary, nothing handed (R77). -/
def endRestartedRound (s : State) : State :=
  setRound { s.round with restarting := false } (setPlan { s.plan with roundState := .idle } s)

/-- A bus clear has succeeded (R62): the round goes on as R63, R66 and R70 give, or ends for a RESTART (R77). A
clear after the latch of a round with no pods completes it at the clear's STOP (assumption log 6). -/
def clearSucceeded (s : State) : State :=
  let t := stopSent (setBusState .ok s)
  if t.round.restarting then endRestartedRound t
  else
    match t.round.clearFor with
    | .start => latchStart t
    | .latch => if t.round.pods.isEmpty then completeRound false t else enterWait t
    | .pod => nextPod t

/-- A bus clear has failed (R62): the round is aborted as R63, R66 and R70 give, or ends for a RESTART (R77). -/
def clearFailed (s : State) : State :=
  let t := setBusState .fault s
  if t.round.restarting then endRestartedRound t
  else
    match t.round.clearFor with
    | .start =>
      let g := t.groups[t.round.group]
      let t := setRound
        { t.round with
          latchTime := hallTime t
          trigCommand := g.newtons
          trigLifeCycles := g.lifeCycles
          latchAnswered := false } t
      completeRound true (missAll t.round.pods t)
    | .latch => completeRound true (missAll t.round.pods t)
    | .pod => completeRound true (missAll t.round.todo.tail t)

/-- Byte i of a pod's reply, as a number; byte 0 is the status byte (R68). -/
def replyByte (b : Vector Byte 14) (i : Fin 14) : Nat := (b[i]).toNat

/-- The count of channel i in a pod's reply: three bytes, most significant first, two's complement (R68, R187). -/
def replyCount (b : Vector Byte 14) (i : Fin 4) : Int :=
  signedBytes 3 (beNat3 (replyByte b ⟨1 + 3 * i.val, by omega⟩)
    (replyByte b ⟨2 + 3 * i.val, by omega⟩) (replyByte b ⟨3 + 3 * i.val, by omega⟩))
where
  /-- Three bytes, most significant first. -/
  beNat3 (x y z : Nat) : Nat := (x * 256 + y) * 256 + z

/-- The judgement of a pod's 14 bytes, in the order of R69: a reason for a miss, or none for a good reading. -/
def replyMiss (b : Vector Byte 14) : Option MissReason :=
  if crc8 (b.toList.take 13) ≠ b[13] then some .badCheck
  else if 128 ≤ replyByte b 0 then some .latchMissed
  else none

/-- The read of the pod at the head of the list has been judged (R69): it is handed over, and the round goes on. -/
def podJudged (reply : PodReply) (s : State) : State :=
  match s.round.todo with
  | [] => s
  | p :: _ =>
    match reply with
    | .nack => nextPod (roundMiss p .noAck s)
    | .bits sda =>
      let b := podBytes sda
      match replyMiss b with
      | some why => nextPod (roundMiss p why s)
      | none =>
        let t := handRead p (fun i => (replyByte b 0).testBit i.val) (replyCount b) s
        nextPod (setRound { t.round with podsRead := t.round.podsRead + 1 } t)

/-- What a RESTART does to a round (R77): a round in DELAY or WAIT ends at once; in LATCH, READ and CLEAR it ends when
the byte in progress, or the clear, has ended. -/
def restartRound (s : State) : State :=
  let t := restartTimer (setRound { s.round with restFlag := false, cyclicDue := false } s)
  match t.plan.roundState with
  | .idle => t
  | .delay | .wait =>
    setRound { t.round with delayCount := 0 } (setPlan { t.plan with roundState := .idle } t)
  | .latch | .read | .clear => setRound { t.round with restarting := true } t

end Sys2Proof.Machine
end

