-- ==== Sys2Proof/Machine/Groups.lean ====
section
/-! DEFINITION. The group engine (chapter 1): entering and completing steps, ramp moves, the waveform, the group
advance of one control period, and starting a group. -/

namespace Sys2Proof.Machine

/-- The ramp move per advance, in 1/1024 N (R7). -/
def rampMove (rate : Nat) : Int := max 1 (roundDiv (rate * 1024) 2000)

/-- One ramp move of a command toward a target, both in 1/1024 N, and whether it arrives (R7). -/
def ramp (cmd target : Int) (rate : Nat) : Int × Bool :=
  if (target - cmd).natAbs ≤ rampMove rate then (target, true)
  else if cmd < target then (cmd + rampMove rate, false)
  else (cmd - rampMove rate, false)

/-- The phase increment of a cycle frequency (R10). -/
def phaseIncrement (freqMhz : Nat) : Word :=
  BitVec.ofNat 32 (roundDiv (freqMhz * 2 ^ 32) 2000000).toNat

/-- Entry of a step (R6, R10); keep says that cycles_left is kept when it is above 0 (R15, RESUME from IDLE). -/
def Group.enter (g : Group) (st : StepRec) (keep : Bool) : Group :=
  { g with
    dwellLeft := if st.kind = .dwell then 2 * st.durationMs else 0
    cyclesLeft :=
      if keep && decide (0 < g.cyclesLeft) then g.cyclesLeft
      else if st.kind = .cycle then st.count else 0
    phase := 0
    phaseInc := if st.kind = .cycle then phaseIncrement st.freqMhz else g.phaseInc
    cycling := .leadIn
    pauseCause := if st.kind = .inspect then .inspect else .none
    stepEntered := true }

/-- The step of index i of group g, or an EMPTY step beyond the list's end (R3). -/
def stepOf (g : Fin 4) (i : Nat) (s : State) : StepRec :=
  if h : i < 16 then s.steps[g.val * 16 + i]'(by omega) else {}

/-- A step is done (R6): the cursor advances, and the next step is entered fresh or the program ends. -/
def Group.stepDone (x : Group) (next : StepRec) : Group :=
  if x.cursor + 1 < x.stepCount then { x with cursor := x.cursor + 1 }.enter next false
  else
    { x with
      cursor := x.cursor + 1
      state := .pause
      pauseCause := .programEnd
      stepEntered := false }

/-- The cycle events of one advance (R12). -/
inductive CycleEvent where
  | none | peak | trough | wrap
  deriving DecidableEq, Repr

/-- The event of one phase step (R12). -/
def cycleEvent (old new : Word) : CycleEvent :=
  if new.toNat < old.toNat then .wrap
  else if old.toNat < 2 ^ 30 ∧ 2 ^ 30 ≤ new.toNat then .peak
  else if old.toNat < 3 * 2 ^ 30 ∧ 3 * 2 ^ 30 ≤ new.toNat then .trough
  else .none

/-- One step of the waveform generator (R11). -/
def Group.wave (x : Group) (st : StepRec) : Group :=
  let phase := x.phase + x.phaseInc
  { x with
    phase := phase
    command := (st.mean + roundDiv (st.amp * sine (phase.toNat / 2 ^ 20)) 32767) * 1024 }

/-- A WRAP counts (R13). -/
def Group.countWrap (x : Group) : Group :=
  { x with lifeCycles := satInc max32 x.lifeCycles, cyclesLeft := x.cyclesLeft - 1 }

/-- What a WRAP makes of the group after it has counted: the step's completion (R13, R6) and the pause of an ENDING
group (R17). next is the step after the cursor. -/
def Group.wrapped (x : Group) (st next : StepRec) : Group :=
  if x.cyclesLeft = 0 then
    if x.state = .ending then
      { x with
        cursor := x.cursor + 1
        stepEntered := false
        state := .pause
        command := st.mean * 1024
        phase := 0
        pauseCause := if x.cursor + 1 < x.stepCount then x.pauseCause else .programEnd }
    else { x with phase := 0 }.stepDone next
  else if x.state = .ending then
    { x with state := .pause, command := st.mean * 1024, phase := 0 }
  else x

/-- The advance of a CYCLE step in RUN or ENDING: the group as it leaves it, and its cycle event (R10 to R13, R17). -/
def Group.advanceCycle (x : Group) (st next : StepRec) : Group × CycleEvent :=
  match x.cycling with
  | .leadIn =>
    let (c, arrived) := ramp x.command (st.mean * 1024) x.transferRate
    if arrived then ({ x with command := c, phase := 0, cycling := .cycling }, .none)
    else ({ x with command := c }, .none)
  | .cycling =>
    let y := x.wave st
    match cycleEvent x.phase y.phase with
    | .wrap => (y.countWrap.wrapped st next, .wrap)
    | e => (y, e)

/-- The advance of a group in RUN on its current step (R7 to R13). -/
def Group.advanceRun (x : Group) (st next : StepRec) : Group × CycleEvent :=
  match st.kind with
  | .ramp =>
    let (c, arrived) := ramp x.command (st.target * 1024) st.rate
    let y := { x with command := c }
    (if arrived then y.stepDone next else y, .none)
  | .dwell =>
    let y := { x with dwellLeft := x.dwellLeft - 1 }
    (if y.dwellLeft = 0 then y.stepDone next else y, .none)
  | .cycle => x.advanceCycle st next
  | .inspect | .empty => (x, .none)

/-- The advance of a group in UNLOAD (R18). -/
def Group.advanceUnload (x : Group) : Group :=
  let (c, arrived) := ramp x.command (x.seatLoad * 1024) x.transferRate
  if arrived then x.toIdle else { x with command := c }

/-- The group advance by state (R5, Table 1-3). -/
def Group.advance (x : Group) (st next : StepRec) : Group × CycleEvent :=
  match x.state with
  | .idle => ({ x with command := x.seatLoad * 1024 }, .none)
  | .run => x.advanceRun st next
  | .ending => if st.kind = .cycle then x.advanceCycle st next else (x, .none)
  | .pause => (x, .none)
  | .unload => (x.advanceUnload, .none)

/-- One group advance, with its cycle event handed to the round plan and the crack table (R5, R12). -/
def advanceGroup (g : Fin 4) (s : State) : State :=
  let x := s.groups[g]
  let (y, e) := x.advance (stepOf g x.cursor s) (stepOf g (x.cursor + 1) s)
  let t := putGroup g y s
  match e with
  | .none => t
  | .peak => peakTrigger g t
  | .trough => troughTrigger g t
  | .wrap => wrapAtCracks g (x.lifeCycles != y.lifeCycles) t

/-- No step at an index below a count is EMPTY (R4, R14). -/
def noEmptyBelow (g : Fin 4) (n : Nat) (s : State) : Bool :=
  (List.finRange 16).all fun i => decide (n ≤ i.val) || (stepOf g i.val s).kind != .empty

/-- The conditions of R14 shared by both forms of GROUP_RUN, in order; none where they all hold. -/
def runRefusal (g : Fin 4) (s : State) : Option Status :=
  let x := s.groups[g]
  if x.state ≠ .idle ∧ x.state ≠ .pause then some .wrongState
  else if anyActive g s = false ∨ anyTripped g s = true then some .wrongState
  else if 2 ≤ x.severity then some .limitActive
  else if noEmptyBelow g x.stepCount s = false then some .badValue
  else none

/-- An accepted GROUP_RUN FROM_STEP i (R15). -/
def runFromStep (g : Fin 4) (i : Nat) (s : State) : State :=
  putGroup g { { s.groups[g] with cursor := i }.enter (stepOf g i s) false with state := .run } s

/-- An accepted GROUP_RUN RESUME (R15): from PAUSE the step goes on, or is entered fresh where it was not entered;
from IDLE it is entered again with cycles_left kept. -/
def runResume (g : Fin 4) (s : State) : State :=
  let x := s.groups[g]
  let st := stepOf g x.cursor s
  if x.state = .pause then
    if x.stepEntered then
      putGroup g
        { x with
          state := .run
          pauseCause := if st.kind = .inspect then .inspect else .none } s
    else putGroup g { x.enter st false with state := .run } s
  else putGroup g { x.enter st true with state := .run } s

end Sys2Proof.Machine
end

