-- ==== Sys2Proof/Machine/Records.lean ====
section
/-! DEFINITION. Records as the request port sees them (R185, Table 11-4): the code of every enumeration, the value of
every field, the encoding of a READ response, and the field that a WRITE sets. -/

namespace Sys2Proof.Machine

/-! ## Enumerations, numbered from 0 in the order of their tables (R185) -/

/-- NO is 0, YES is 1. -/
def boolCode (b : Bool) : Int := if b then 1 else 0

/-- Table 1-1. -/
def GroupState.code : GroupState → Int
  | .idle => 0 | .run => 1 | .ending => 2 | .pause => 3 | .unload => 4

/-- Table 1-1. -/
def Cycling.code : Cycling → Int
  | .leadIn => 0 | .cycling => 1

/-- Table 1-1. -/
def PauseCause.code : PauseCause → Int
  | .none => 0 | .supervisor => 1 | .limit => 2 | .programEnd => 3 | .inspect => 4

/-- Table 1-2. -/
def StepKind.code : StepKind → Int
  | .empty => 0 | .ramp => 1 | .dwell => 2 | .cycle => 3 | .inspect => 4

/-- Table 1-2. -/
def StepKind.ofCode : Int → StepKind
  | 1 => .ramp | 2 => .dwell | 3 => .cycle | 4 => .inspect | _ => .empty

/-- Table 2-2. -/
def RamState.code : RamState → Int
  | .off => 0 | .active => 1 | .tripped => 2

/-- Table 2-2. -/
def TripCause.code : TripCause → Int
  | .none => 0 | .estop => 1 | .pressure => 2 | .input => 3 | .stroke => 4 | .saturation => 5
  | .coil => 6 | .limit => 7

/-- Table 4-3. -/
def PlanSource.code : PlanSource → Int
  | .supervisor => 0 | .timed => 1 | .peak => 2 | .trough => 3 | .both => 4

/-- Table 4-3. -/
def PlanSource.ofCode : Int → PlanSource
  | 1 => .timed | 2 => .peak | 3 => .trough | 4 => .both | _ => .supervisor

/-- Table 4-3. -/
def PlanMode.code : PlanMode → Int
  | .single => 0 | .repeating => 1 | .cyclic => 2

/-- Table 4-3. -/
def PlanMode.ofCode : Int → PlanMode
  | 1 => .repeating | 2 => .cyclic | _ => .single

/-- Table 4-3. -/
def RoundState.code : RoundState → Int
  | .idle => 0 | .delay => 1 | .latch => 2 | .wait => 3 | .read => 4 | .clear => 5

/-- Table 4-3. -/
def BusState.code : BusState → Int
  | .ok => 0 | .fault => 1

/-- Table 4-3. -/
def TriggerKind.code : TriggerKind → Int
  | .none => 0 | .supervisor => 1 | .timed => 2 | .peak => 3 | .trough => 4 | .cyclic => 5

/-- Table 5-1. -/
def Bridge.code : Bridge → Int
  | .quarter => 0 | .half => 1 | .full => 2

/-- Table 5-1. -/
def Bridge.ofCode : Int → Bridge
  | 1 => .half | 2 => .full | _ => .quarter

/-- Table 5-1. -/
def GaugeState.code : GaugeState → Int
  | .disabled => 0 | .waiting => 1 | .ok => 2 | .overrange => 3 | .stale => 4

/-- Table 5-4. -/
def MissReason.code : MissReason → Int
  | .none => 0 | .noAck => 1 | .badCheck => 2 | .latchMissed => 3 | .stretch => 4 | .fault => 5

/-- Table 6-2. -/
def APodState.code : APodState → Int
  | .disabled => 0 | .ok => 1 | .lost => 2

/-- Table 6-2. -/
def PollOutcome.code : PollOutcome → Int
  | .none => 0 | .good => 1 | .silent => 2 | .gap => 3 | .frameError => 4 | .badCheck => 5
  | .contention => 6

/-- R107. -/
def LineState.code : LineState → Int
  | .ok => 0 | .stuck => 1

/-- R185: FREE is 0. -/
def CrackState.code : CrackState → Int
  | .suspect => 1 | .confirmed => 2 | .active => 3 | .quiet => 4

/-- R185: EMPTY is 0. -/
def LimitState.code : LimitState → Int
  | .disabled => 1 | .clear => 2 | .pending => 3 | .tripped => 4 | .latched => 5

/-- Table 9-1. -/
def LimitSource.code : LimitSource → Int
  | .gaugeStrain => 0 | .ramForce => 1 | .ramStroke => 2 | .ramError => 3 | .aux => 4
  | .crackCount => 5 | .crackWidth => 6

/-- Table 9-1. -/
def LimitSource.ofCode : Int → LimitSource
  | 0 => .gaugeStrain | 2 => .ramStroke | 3 => .ramError | 4 => .aux | 5 => .crackCount
  | 6 => .crackWidth | _ => .ramForce

/-- Table 9-1. -/
def Floor.code : Floor → Int
  | .any => 0 | .confirmed => 1 | .active => 2

/-- Table 9-1. -/
def Floor.ofCode : Int → Floor
  | 1 => .confirmed | 2 => .active | _ => .any

/-- Table 9-1. -/
def Compare.code : Compare → Int
  | .above => 0 | .below => 1

/-- Table 9-1. -/
def Compare.ofCode : Int → Compare
  | 1 => .below | _ => .above

/-- Table 9-1. -/
def Action.code : Action → Int
  | .note => 0 | .derate => 1 | .pauseAtCycleEnd => 2 | .pauseNow => 3 | .unload => 4 | .trip => 5

/-- Table 9-1. -/
def Action.ofCode : Int → Action
  | 1 => .derate | 2 => .pauseAtCycleEnd | 3 => .pauseNow | 4 => .unload | 5 => .trip | _ => .note

/-- Table 9-1. -/
def StalePolicy.code : StalePolicy → Int
  | .hold => 0 | .trip => 1

/-- Table 9-1. -/
def StalePolicy.ofCode : Int → StalePolicy
  | 1 => .trip | _ => .hold

/-- Table 10-4: hpu_ready. -/
def hpuCode : HpuLevel → Int
  | .low => 0 | .high => 1

/-- Table 10-4: estop. -/
def estopCode : EstopLevel → Int
  | .clear => 0 | .asserted => 1

/-- bus_speed is the number 100 or 400 (R185). -/
def BusSpeed.kbit : BusSpeed → Int
  | .kbit100 => 100 | .kbit400 => 400

/-- Table 11-2: the status byte. -/
def statusByte : Status → Byte
  | .ok => 0x00 | .empty => 0x01 | .badCheck => 0x02 | .badLength => 0x03 | .truncated => 0x04
  | .unknown => 0x05 | .badKey => 0x06 | .badField => 0x07 | .badValue => 0x08
  | .wrongState => 0x09 | .noPressure => 0x0A | .limitActive => 0x0B | .notFound => 0x0C

/-- flags as a byte: CLAMPED, SLEW_LIMITED, SATURATED from bit 0 (R185). -/
def Ram.flagBits (r : Ram) : Int :=
  boolCode r.clamped + 2 * boolCode r.slewLimited + 4 * boolCode r.saturated

/-! ## The value of every field, in the order of Table 11-4; none for an absent optional field -/

/-- The fields of HALL (Table 10-4). -/
def hallFields (s : State) : List (Option Int) :=
  let h := s.hall
  [some h.scanDelayUs, some h.settleUs, some h.pwmPeriod, some h.busSpeed.kbit,
   some h.stretchLimitUs, some h.latchWaitUs, some h.staleLimit, some h.attentionMask.toNat,
   some h.overrunCount, some h.cutCount, some (hpuCode h.hpuReady), some (estopCode h.estop),
   some h.aux[0], some h.aux[1], some h.aux[2], some h.aux[3], some (hallTime s).toNat]

/-- The fields of a RAM (Table 2-2). -/
def Ram.fields (r : Ram) : List (Option Int) :=
  [some r.state.code, some r.tripCause.code, some r.group.val, some r.share, some r.fsForce,
   some r.loadZero, some r.fMin, some r.fMax, some r.slewMax, some r.fsStroke, some r.strokeZero,
   some r.strokeMin, some r.strokeMax, some r.kp, some r.ki, some r.satPeriods, some r.coilFsMa,
   some r.coilPeriods, some r.force, some r.stroke, some r.coilMa, some r.setpoint, some r.u,
   some r.trackError, some r.flagBits, some r.satCount, some r.coilCount]

/-- The fields of a GROUP (Table 1-1); the command is sent as G_N (R185). -/
def Group.fields (g : Group) : List (Option Int) :=
  [some g.state.code, some g.stepCount, some g.cursor, some (boolCode g.stepEntered),
   some g.newtons, some g.seatLoad, some g.transferRate, some g.dwellLeft, some g.cyclesLeft,
   some g.phase.toNat, some g.cycling.code, some g.lifeCycles, some g.zoneLo, some g.zoneHi,
   some g.pauseCause.code, some g.severity, some g.derate]

/-- The fields of a STEP (Table 1-2). -/
def StepRec.fields (x : StepRec) : List (Option Int) :=
  [some x.kind.code, some x.target, some x.rate, some x.durationMs, some x.mean, some x.amp,
   some x.freqMhz, some x.count]

/-- The fields of PLAN (Table 4-3). -/
def Plan.fields (p : Plan) : List (Option Int) :=
  [some p.source.code, some p.trigGroup.val, some p.delayPeriods, some p.intervalMs,
   some p.mode.code, some (boolCode p.armed), some p.roundState.code, some p.busState.code,
   some p.missedTriggers, some p.roundNumber, some p.trigger.code, some p.latchTime.toNat,
   some p.trigCommand, some p.trigLifeCycles, some (boolCode p.latchAnswered),
   some (boolCode p.aborted), some p.podsRead, some p.podsMissed]

/-- The fields of a GAUGE (Table 5-1). -/
def Gauge.fields (g : Gauge) : List (Option Int) :=
  [some (boolCode g.enabled), some g.gfMilli, some g.bridge.code, some g.zero,
   some (boolCode g.zeroPending), g.count, g.strain.map (·.now), g.strain.map (·.peakMax),
   g.strain.map (·.peakMin), some g.state.code]

/-- The fields of a GPOD (Table 5-4), given whether the pod is in use. -/
def GPod.fields (inUse : Bool) (x : GPod) : List (Option Int) :=
  [some (boolCode inUse), some x.consecutiveMisses, some x.reads, some x.misses, some x.badChecks,
   some x.stretchTimeouts, some x.lastMiss.code]

/-- The fields of an APOD (Table 6-2); the slot is the timestamp's four bytes and the amplitude's one (R185). -/
def APod.fields (a : APod) : List (Option Int) :=
  [some (boolCode a.enabled), some a.positionMm, some a.state.code, some a.consecutiveFails,
   some a.lastOutcome.code, some a.frameErrors, some a.podOverflows, some a.received,
   some a.belowAmp, some a.accepted, some a.paired, some a.unpaired,
   a.slot.map fun h => ((h.time.toNat * 256 + h.amp : Nat) : Int)]

/-- The fields of CRACKSET (R107, Table 7-1, Table 8-1). -/
def CrackSet.fields (c : CrackSet) : List (Option Int) :=
  [some c.pollIntervalUs, some c.lineState.code, some c.contentionCount, some c.minAmpDb,
   some c.pairHoldUs, some c.waveSpeed, some c.guardUs, some c.radiusMm, some c.confirmCount,
   some c.windowCycles, some c.activeEvents, some c.quietWindows, some c.suspectWindows,
   some c.eventsLost]

/-- The fields of a CRACK slot: the state alone of a FREE one (R125, R185). -/
def crackFields : Option Crack → List (Option Int)
  | none => [some 0]
  | some c =>
    [some c.state.code, some c.xq, some c.xMm, some c.xLo, some c.xHi, some c.events,
     some c.windowEvents, some c.quietCount, some c.peakAmp,
     some ((c.refGroup.map fun g => (g.val : Int)).getD 0xFF), some c.firstCycle,
     c.confirmCycle.map fun n => (n : Int), c.width.map fun w => (w.width : Int),
     c.width.map fun w => (w.inspectedCycle : Int), some (boolCode c.acknowledged)]

/-- The fields of a LIMIT slot: the state alone of an EMPTY one (R145, R185). -/
def limitFields : Option Limit → List (Option Int)
  | none => [some 0]
  | some l =>
    [some l.state.code, some (boolCode l.enabled), some l.source.code, some l.sourceKey,
     some l.floor.code, some l.compare.code, some l.set, some l.clear, some l.persistence,
     some l.action.code, some l.derate, some l.targets.toNat, some (boolCode l.latching),
     some l.stalePolicy.code, some l.counter, l.value]

/-- The kind of a record. -/
def RecordId.kind : RecordId → Kind
  | .hall => .hall | .ram _ => .ram | .group _ => .group | .step _ => .step | .plan => .plan
  | .gauge _ => .gauge | .gpod _ => .gpod | .apod _ => .apod | .crackset => .crackset
  | .crack _ => .crack | .limit _ => .limit

/-- The fields of any record as it stands. -/
def recordFields (s : State) : RecordId → List (Option Int)
  | .hall => hallFields s
  | .ram r => s.rams[r].fields
  | .group g => s.groups[g].fields
  | .step i => s.steps[i].fields
  | .plan => s.plan.fields
  | .gauge k => s.gauges[k].fields
  | .gpod p => s.gpods[p].fields (podInUse p s)
  | .apod p => s.apods[p].fields
  | .crackset => s.crackset.fields
  | .crack c => crackFields s.cracks[c]
  | .limit l => limitFields s.limits[l]

/-- A value in w bytes: two's complement where it is negative (R185). -/
def encodeValue (w : Nat) (v : Int) : List Byte := beBytes w (v % (256 ^ w : Nat)).toNat

/-- The items of a record: one field number and value for each field present, ascending from f (R185). -/
def encodeItems : Nat → List Nat → List (Option Int) → List Byte
  | f, w :: ws, some v :: vs =>
    BitVec.ofNat 8 f :: encodeValue w v ++ encodeItems (f + 1) ws vs
  | f, _ :: ws, none :: vs => encodeItems (f + 1) ws vs
  | _, _, _ => []

/-- The payload of a READ response: kind code, key, items (R185). -/
def readPayload (r : RecordId) (s : State) : List Byte :=
  BitVec.ofNat 8 r.pair.1 :: BitVec.ofNat 8 r.pair.2 ::
    encodeItems 1 r.kind.widths (recordFields s r)

/-- The record that a kind code and key name (Table 0-1, R177), if there is one. -/
def recordOf (kind key : Byte) : Option RecordId :=
  let k := key.toNat
  match Kind.ofCode kind.toNat with
  | none => none
  | some .hall => if k = 0 then some .hall else none
  | some .ram => if h : k < 8 then some (.ram ⟨k, h⟩) else none
  | some .group => if h : k < 4 then some (.group ⟨k, h⟩) else none
  | some .step => if h : k < 64 then some (.step ⟨k, h⟩) else none
  | some .plan => if k = 0 then some .plan else none
  | some .gauge => if h : k < 48 then some (.gauge ⟨k, h⟩) else none
  | some .gpod => if h : k < 12 then some (.gpod ⟨k, h⟩) else none
  | some .apod => if h : k < 16 then some (.apod ⟨k, h⟩) else none
  | some .crackset => if k = 0 then some .crackset else none
  | some .crack => if h : k < 32 then some (.crack ⟨k, h⟩) else none
  | some .limit => if h : k < 24 then some (.limit ⟨k, h⟩) else none

/-! ## The field a WRITE sets -/

/-- A field's access and range. -/
inductive Access where
  | readOnly
  | range (lo hi : Int)
  | zeroOr (lo hi : Int)
  | either (a b : Int)
  deriving DecidableEq, Repr

/-- Access and range of every field, in the order of Table 11-4 (Tables 1-1, 1-2, 2-2, 4-3, 5-1, 5-4, 6-2, 7-1,
8-1, 8-2, 9-1, 10-4, R107). -/
def accessTable : Kind → List Access
  | .hall =>
    [.range 0 50, .range 2 12, .range 1000 20000, .either 100 400, .range 100 10000,
     .range 100 20000, .range 1 15, .range 0 2047, .range 0 0, .range 0 0] ++
      List.replicate 7 .readOnly
  | .ram =>
    [.readOnly, .readOnly, .range 0 3, .range 0 10000, .zeroOr 1000 8000000,
     .range (-32768) 32767, .range (-8000000) 8000000, .range (-8000000) 8000000,
     .range 1 8000000, .range 1000 2000000, .range (-32768) 32767, .range (-2000000) 2000000,
     .range (-2000000) 2000000, .range 0 16777215, .range 0 16777215, .range 1 65535,
     .range 1 5000, .range 1 255] ++ List.replicate 9 .readOnly
  | .group =>
    [.readOnly, .range 0 16, .readOnly, .readOnly, .readOnly, .range (-8000000) 8000000,
     .range 1 10000000, .readOnly, .readOnly, .readOnly, .readOnly, .readOnly, .range 0 250000,
     .range 0 250000, .readOnly, .readOnly, .readOnly]
  | .step =>
    [.range 0 4, .range (-8000000) 8000000, .range 1 10000000, .range 1 2147483647,
     .range (-8000000) 8000000, .range 0 8000000, .range 10 10000, .range 1 4294967295]
  | .plan =>
    [.range 0 4, .range 0 3, .range 0 255, .range 10 60000, .range 0 2] ++
      List.replicate 13 .readOnly
  | .gauge =>
    [.range 0 1, .range 500 5000, .range 0 2, .range (-8388607) 8388607] ++
      List.replicate 6 .readOnly
  | .gpod => List.replicate 7 .readOnly
  | .apod => [.range 0 1, .range 0 250000] ++ List.replicate 11 .readOnly
  | .crackset =>
    [.range 500 10000, .readOnly, .readOnly, .range 30 100, .range 1000 100000,
     .range 1000 7000, .range 0 1000, .range 10 5000, .range 2 255, .range 100 100000,
     .range 1 65535, .range 1 255, .range 1 255, .readOnly]
  | .crack => List.replicate 15 .readOnly
  | .limit =>
    [.readOnly, .range 0 1, .range 0 6, .range 0 47, .range 0 2, .range 0 1,
     .range (-2147483648) 2147483647, .range (-2147483648) 2147483647, .range 1 255, .range 0 5,
     .range 100 999, .range 0 15, .range 0 1, .range 0 1, .readOnly, .readOnly]

/-- The access of field f (from 1) of a kind; a field the kind does not have is treated like a read-only one
(R178 step 2). -/
def accessOf (k : Kind) (f : Nat) : Access :=
  if f = 0 then .readOnly else (accessTable k).getD (f - 1) .readOnly

/-- The value that w bytes carry for a field: signed where its range includes negative values (R185). -/
def Access.decode (a : Access) (bs : List Byte) : Int :=
  match a with
  | .range lo _ => if lo < 0 then signedBytes bs.length (beNat bs) else beNat bs
  | .readOnly | .zeroOr _ _ | .either _ _ => beNat bs

/-- A value lies in a field's range (R178 step 3). -/
def Access.admits (a : Access) (v : Int) : Bool :=
  match a with
  | .readOnly => false
  | .range lo hi => decide (lo ≤ v) && decide (v ≤ hi)
  | .zeroOr lo hi => v == 0 || (decide (lo ≤ v) && decide (v ≤ hi))
  | .either x y => v == x || v == y

/-- HALL with field f set. -/
def Hall.put (f : Nat) (v : Int) (h : Hall) : Hall :=
  match f with
  | 1 => { h with scanDelayUs := v.toNat }
  | 2 => { h with settleUs := v.toNat }
  | 3 => { h with pwmPeriod := v.toNat }
  | 4 => { h with busSpeed := if v = 400 then .kbit400 else .kbit100 }
  | 5 => { h with stretchLimitUs := v.toNat }
  | 6 => { h with latchWaitUs := v.toNat }
  | 7 => { h with staleLimit := v.toNat }
  | 8 => { h with attentionMask := BitVec.ofInt 11 v }
  | 9 => { h with overrunCount := v.toNat }
  | 10 => { h with cutCount := v.toNat }
  | _ => h

/-- A RAM with field f set. -/
def Ram.put (f : Nat) (v : Int) (r : Ram) : Ram :=
  match f with
  | 3 => { r with group := Fin.ofNat 4 v.toNat }
  | 4 => { r with share := v.toNat }
  | 5 => { r with fsForce := v.toNat }
  | 6 => { r with loadZero := v }
  | 7 => { r with fMin := v }
  | 8 => { r with fMax := v }
  | 9 => { r with slewMax := v.toNat }
  | 10 => { r with fsStroke := v.toNat }
  | 11 => { r with strokeZero := v }
  | 12 => { r with strokeMin := v }
  | 13 => { r with strokeMax := v }
  | 14 => { r with kp := v.toNat }
  | 15 => { r with ki := v.toNat }
  | 16 => { r with satPeriods := v.toNat }
  | 17 => { r with coilFsMa := v.toNat }
  | 18 => { r with coilPeriods := v.toNat }
  | _ => r

/-- A GROUP with field f set. -/
def Group.put (f : Nat) (v : Int) (g : Group) : Group :=
  match f with
  | 2 => { g with stepCount := v.toNat }
  | 6 => { g with seatLoad := v }
  | 7 => { g with transferRate := v.toNat }
  | 13 => { g with zoneLo := v.toNat }
  | 14 => { g with zoneHi := v.toNat }
  | _ => g

/-- A STEP with field f set. -/
def StepRec.put (f : Nat) (v : Int) (x : StepRec) : StepRec :=
  match f with
  | 1 => { x with kind := StepKind.ofCode v }
  | 2 => { x with target := v }
  | 3 => { x with rate := v.toNat }
  | 4 => { x with durationMs := v.toNat }
  | 5 => { x with mean := v }
  | 6 => { x with amp := v.toNat }
  | 7 => { x with freqMhz := v.toNat }
  | 8 => { x with count := v.toNat }
  | _ => x

/-- PLAN with field f set. -/
def Plan.put (f : Nat) (v : Int) (p : Plan) : Plan :=
  match f with
  | 1 => { p with source := PlanSource.ofCode v }
  | 2 => { p with trigGroup := Fin.ofNat 4 v.toNat }
  | 3 => { p with delayPeriods := v.toNat }
  | 4 => { p with intervalMs := v.toNat }
  | 5 => { p with mode := PlanMode.ofCode v }
  | _ => p

/-- A GAUGE with conversion field f set; enabled (field 1) acts through R79. -/
def Gauge.put (f : Nat) (v : Int) (g : Gauge) : Gauge :=
  match f with
  | 2 => { g with gfMilli := v.toNat }
  | 3 => { g with bridge := Bridge.ofCode v }
  | 4 => { g with zero := v }
  | _ => g

/-- An APOD with its position set; enabled (field 1) acts through R106. -/
def APod.put (f : Nat) (v : Int) (a : APod) : APod :=
  match f with
  | 2 => { a with positionMm := v.toNat }
  | _ => a

/-- CRACKSET with field f set. -/
def CrackSet.put (f : Nat) (v : Int) (c : CrackSet) : CrackSet :=
  match f with
  | 1 => { c with pollIntervalUs := v.toNat }
  | 4 => { c with minAmpDb := v.toNat }
  | 5 => { c with pairHoldUs := v.toNat }
  | 6 => { c with waveSpeed := v.toNat }
  | 7 => { c with guardUs := v.toNat }
  | 8 => { c with radiusMm := v.toNat }
  | 9 => { c with confirmCount := v.toNat }
  | 10 => { c with windowCycles := v.toNat }
  | 11 => { c with activeEvents := v.toNat }
  | 12 => { c with quietWindows := v.toNat }
  | 13 => { c with suspectWindows := v.toNat }
  | _ => c

/-- A LIMIT with field f set. -/
def Limit.put (f : Nat) (v : Int) (l : Limit) : Limit :=
  match f with
  | 2 => { l with enabled := v == 1 }
  | 3 => { l with source := LimitSource.ofCode v }
  | 4 => { l with sourceKey := v.toNat }
  | 5 => { l with floor := Floor.ofCode v }
  | 6 => { l with compare := Compare.ofCode v }
  | 7 => { l with set := v }
  | 8 => { l with clear := v }
  | 9 => { l with persistence := v.toNat }
  | 10 => { l with action := Action.ofCode v }
  | 11 => { l with derate := v.toNat }
  | 12 => { l with targets := BitVec.ofInt 4 v }
  | 13 => { l with latching := v == 1 }
  | 14 => { l with stalePolicy := StalePolicy.ofCode v }
  | _ => l

/-- Every pair of a WRITE applied in order. -/
def putAll {α : Type} (put : Nat → Int → α → α) (pairs : List (Nat × Int)) (x : α) : α :=
  pairs.foldl (fun y p => put p.1 p.2 y) x

/-- The value that the pairs of a WRITE carry for field f. -/
def carried (f : Nat) (pairs : List (Nat × Int)) : Option Int :=
  (pairs.find? fun p => p.1 == f).map (·.2)

/-- The pairs of a WRITE name field f. -/
def names (f : Nat) (pairs : List (Nat × Int)) : Bool := pairs.any fun p => p.1 == f

end Sys2Proof.Machine
end

