-- ==== Sys2Proof/Machine/Writes.lean ====
section
/-! DEFINITION. The WRITE request (R178): the pair-by-pair check, the relations each owner checks on the whole record,
and what an accepted WRITE does to each kind of record (R1 to R4, R19, R29, R32, R72, R79, R106, R107, R123, R146 to
R149, R183). -/

namespace Sys2Proof.Machine

/-- What the check of the pairs gives (R178): the pairs, or the status and the index of the first that failed. -/
inductive PairsResult where
  | good (pairs : List (Nat × Int))
  | bad (st : Status) (index : Nat)
  deriving DecidableEq, Repr

/-- Some ram is ACTIVE (R32). -/
def someRamActive (s : State) : Bool := (List.finRange 8).any fun r => s.rams[r].state == .active

/-- The owner lets field f of a record be written in the record's present state (R178 step 4): R29, R32, R60, R79,
R106, R147. -/
def letsWrite (s : State) (r : RecordId) (f : Nat) : Bool :=
  match r with
  | .hall =>
    if f = 3 then !someRamActive s
    else if f = 4 then s.plan.roundState == .idle
    else true
  | .ram r =>
    if f = 3 then s.rams[r].state == .off
    else if f = 5 || f = 6 || f = 10 || f = 11 || f = 17 then s.rams[r].state != .active
    else true
  | .gauge k => if f = 2 || f = 3 || f = 4 then !s.gauges[k].enabled else true
  | .apod p => if f = 2 then !s.apods[p].enabled else true
  | .limit l =>
    match s.limits[l] with
    | some x => f = 2 || !x.engaged
    | none => true
  | .group _ | .step _ | .plan | .gpod _ | .crackset | .crack _ => true

/-- The check of one pair whose value is complete: steps 2 to 4 of R178. -/
def checkPair (s : State) (r : RecordId) (seen : List (Nat × Int)) (f : Nat) (v : Int) :
    Option Status :=
  let a := accessOf r.kind f
  if a = .readOnly || names f seen then some .badField
  else if a.admits v = false then some .badValue
  else if letsWrite s r f = false then some .wrongState
  else none

/-- The pairs of a WRITE checked in the order they stand (R178 steps 1 to 4). The first argument bounds the number of
pairs; seen are the pairs already passed. -/
def checkPairs (s : State) (r : RecordId) : Nat → List (Nat × Int) → List Byte → PairsResult
  | _, seen, [] => .good seen
  | 0, seen, _ :: _ => .bad .badValue seen.length
  | n + 1, seen, f :: rest =>
    match r.kind.width? f.toNat with
    | none => .bad .badField seen.length
    | some w =>
      if rest.length < w then .bad .badValue seen.length
      else
        let v := (accessOf r.kind f.toNat).decode (rest.take w)
        match checkPair s r seen f.toNat v with
        | some st => .bad st seen.length
        | none => checkPairs s r n (seen ++ [(f.toNat, v)]) (rest.drop w)

/-! ## Relations of the whole record -/

/-- The relations of a RAM record as it would stand (R29). -/
def Ram.related (r : Ram) : Bool :=
  (r.fsForce == 0 ||
    (decide (-(r.fsForce : Int) ≤ r.fMin) && decide (r.fMin < r.fMax) &&
      decide (r.fMax ≤ r.fsForce) && decide (r.slewMax ≤ r.fsForce))) &&
  (decide (-(r.fsStroke : Int) ≤ r.strokeMin) && decide (r.strokeMin < r.strokeMax) &&
    decide (r.strokeMax ≤ r.fsStroke)) &&
  (r.state != .active || (decide (r.fMin ≤ r.setpoint) && decide (r.setpoint ≤ r.fMax)))

/-- The step editing checks of R4 on a step_count write, outside IDLE. -/
def countEditable (g : Fin 4) (n : Nat) (s : State) : Bool :=
  let x := s.groups[g]
  x.state == .idle ||
    (!(decide (n < x.cursor)) && !(n == x.cursor && x.stepEntered) && noEmptyBelow g n s)

/-- The group of a STEP record (R3). -/
def groupOfStep (i : Fin 64) : Fin 4 := ⟨i.val / 16, by omega⟩

/-- A STEP record is replaced; STEP records carry no mark (R3). -/
def setStep (i : Fin 64) (x : StepRec) (s : State) : State := { s with steps := s.steps.set i x }

/-- The step editing checks of R4 on a WRITE of STEP i that would leave x, outside IDLE. -/
def stepEditable (i : Fin 64) (x : StepRec) (s : State) : Bool :=
  let g := s.groups[groupOfStep i]
  g.state == .idle ||
    (!(i.val % 16 == g.cursor && g.stepEntered) &&
      noEmptyBelow (groupOfStep i) g.stepCount (setStep i x s))

/-- A CYCLE step keeps mean + amp and mean − amp within ±8,000,000 N (R3). -/
def StepRec.related (x : StepRec) : Bool :=
  x.kind != .cycle || (decide (x.mean + x.amp ≤ 8000000) && decide (-8000000 ≤ x.mean - x.amp))

/-- Greatest source_key of a limit source (R147). -/
def LimitSource.topKey : LimitSource → Nat
  | .gaugeStrain => 47
  | .ramForce | .ramStroke | .ramError => 7
  | .aux | .crackCount | .crackWidth => 3

/-- The relations of a LIMIT record as it would stand (R147). -/
def Limit.related (l : Limit) : Bool :=
  decide (l.sourceKey ≤ l.source.topKey) &&
    (match l.compare with
      | .above => decide (l.clear ≤ l.set)
      | .below => decide (l.set ≤ l.clear))

/-- An APOD that the WRITE leaves enabled stands alone at its position (R106). -/
def positionFree (p : Fin 16) (pairs : List (Nat × Int)) (s : State) : Bool :=
  let enabled := match carried 1 pairs with
    | some v => v == 1
    | none => s.apods[p].enabled
  !enabled || (List.finRange 16).all fun q =>
    q == p || !s.apods[q].enabled ||
      s.apods[q].positionMm != (putAll APod.put pairs s.apods[p]).positionMm

/-- The limit that the pairs of a WRITE leave in a slot: formed from Table 9-1 in an EMPTY one (R146). -/
def writtenLimit (l : Fin 24) (pairs : List (Nat × Int)) (s : State) : Limit :=
  putAll Limit.put pairs (s.limits[l].getD {})

/-- The owner's check of the record as it would stand after the whole WRITE (R178). The step editing checks of R4
come before the other relations (assumption log 8). -/
def relationRefusal (s : State) (r : RecordId) (pairs : List (Nat × Int)) : Option Status :=
  match r with
  | .ram r => if (putAll Ram.put pairs s.rams[r]).related then none else some .badValue
  | .group g =>
    let x := putAll Group.put pairs s.groups[g]
    if names 2 pairs && !countEditable g x.stepCount s then some .wrongState
    else if x.zoneHi < x.zoneLo then some .badValue
    else none
  | .step i =>
    let x := putAll StepRec.put pairs s.steps[i]
    if stepEditable i x s = false then some .wrongState
    else if x.related then none
    else some .badValue
  | .apod p => if positionFree p pairs s then none else some .badValue
  | .limit l => if (writtenLimit l pairs s).related then none else some .badValue
  | .hall | .plan | .gauge _ | .gpod _ | .crackset | .crack _ => none

/-! ## What an accepted WRITE does -/

/-- A WRITE of stretch_limit_us is noted while the bus is in use: a stretch in progress keeps the limit that stood at its
release of SCL (R61). -/
def noteLimit (pairs : List (Nat × Int)) (s : State) : Round :=
  match s.plan.roundState with
  | .latch | .read | .clear =>
    if names 5 pairs then
      { s.round with limitWrites := (s.clk, s.hall.stretchLimitUs) :: s.round.limitWrites }
    else s.round
  | .idle | .delay | .wait => s.round

/-- HALL (R183): a WRITE of pwm_period restarts the period counter and every channel takes the new mid (R32). -/
def writeHall (pairs : List (Nat × Int)) (s : State) : State :=
  let t : State := { s with hall := putAll Hall.put pairs s.hall, round := noteLimit pairs s }
  if names 3 pairs then
    { t with
      pulseStart := t.clk
      rams := mapBank (fun _ x =>
        { x with shadowCompare := midCompare t, activeCompare := midCompare t }) t.rams }
  else t

/-- A GROUP record with the pairs of a WRITE applied: in IDLE a step_count below the cursor moves the cursor there
and clears cycles_left (R4), and a seat_load moves the command (R19). -/
def Group.written (x : Group) (pairs : List (Nat × Int)) : Group :=
  let y := putAll Group.put pairs x
  if x.state = .idle then
    let y := if names 2 pairs && decide (y.stepCount < y.cursor) then
      { y with cursor := y.stepCount, cyclesLeft := 0 } else y
    if names 6 pairs then { y with command := y.seatLoad * 1024 } else y
  else y

/-- GROUP (R1, R4, R19): a WRITE that names a zone field goes to the crack table (R126). -/
def writeGroup (g : Fin 4) (pairs : List (Nat × Int)) (s : State) : State :=
  let t := putGroup g (s.groups[g].written pairs) s
  if names 13 pairs || names 14 pairs then recomputeRefs t else t

/-- STEP (R3, R4): in IDLE a WRITE of the step at the cursor sets cycles_left to 0. -/
def writeStep (i : Fin 64) (pairs : List (Nat × Int)) (s : State) : State :=
  let t := setStep i (putAll StepRec.put pairs s.steps[i]) s
  let g := groupOfStep i
  if t.groups[g].state = .idle ∧ i.val % 16 = t.groups[g].cursor then
    putGroup g { t.groups[g] with cyclesLeft := 0 } t
  else t

/-- PLAN (R72): a WRITE of source or interval_ms restarts the interval timer (R73). -/
def writePlan (pairs : List (Nat × Int)) (s : State) : State :=
  let t := setPlan (putAll Plan.put pairs s.plan) s
  if names 1 pairs || names 4 pairs then restartTimer t else t

/-- GAUGE (R79). A WRITE that gives enabled the value it already has changes nothing by that pair; the other pairs of the
same WRITE are applied with it (R178: DESIGN CHOICE, assumption log 24). -/
def writeGauge (k : Fin 48) (pairs : List (Nat × Int)) (s : State) : State :=
  let g := s.gauges[k]
  let x := putAll Gauge.put pairs g
  match carried 1 pairs with
  | some v =>
    if v = 1 then putGauge k (if g.enabled then x else x.enable) s
    else if g.enabled then
      let t := putGauge k x.disable s
      if podInUse (podOf k) t then t
      else
        { t with
          gpods := t.gpods.set (podOf k) { t.gpods[podOf k] with consecutiveMisses := 0 } }
    else putGauge k x s
  | none => putGauge k x s

/-- APOD (R106). A WRITE that gives enabled the value it already has changes nothing by that pair; a position_mm of the
same WRITE is applied with it (R178: DESIGN CHOICE, assumption log 24). A disable clears the slot (R121), and a poll in
flight is not counted (R102). -/
def writeAPod (p : Fin 16) (pairs : List (Nat × Int)) (s : State) : State :=
  let a := s.apods[p]
  let x := putAll APod.put pairs a
  match carried 1 pairs with
  | some v =>
    if v = 1 then putAPod p (if a.enabled then x else x.enable) s
    else if a.enabled then clearSlot p (uncountPoll p (putAPod p x.disable s))
    else putAPod p x s
  | none => putAPod p x s

/-- A LIMIT slot (R146, R148, R149). -/
def writeLimit (l : Fin 24) (pairs : List (Nat × Int)) (s : State) : State :=
  let x := writtenLimit l pairs s
  match s.limits[l] with
  | none =>
    if x.enabled then evalLimit l (putLimit l (some { x with state := .clear }) s)
    else putLimit l (some x) s
  | some old =>
    if x.enabled then
      if old.enabled && x == old then s
      else evalLimit l (putLimit l (some { x with state := .clear, counter := 0 }) s)
    else if old.enabled then
      let t := putLimit l (some { x with state := .disabled, counter := 0 }) s
      if old.engaged then notifyRelease old t else t
    else putLimit l (some x) s

/-- An accepted WRITE is applied by its owner in one event (R178). -/
def applyWrite (r : RecordId) (pairs : List (Nat × Int)) (s : State) : State :=
  match r with
  | .hall => writeHall pairs s
  | .ram r => setRam r (putAll Ram.put pairs s.rams[r]) s
  | .group g => writeGroup g pairs s
  | .step i => writeStep i pairs s
  | .plan => writePlan pairs s
  | .gauge k => writeGauge k pairs s
  | .apod p => writeAPod p pairs s
  | .crackset => { s with crackset := putAll CrackSet.put pairs s.crackset }
  | .limit l => writeLimit l pairs s
  | .gpod _ | .crack _ => s

/-! ## Responses and the whole request -/

/-- OK with a payload. -/
def okWith (payload : List Byte) : Response := { status := .ok, payload := payload, readOf := none }

/-- OK with no payload. -/
def ok : Response := okWith []

/-- A refusal (R175). -/
def refuse (st : Status) : Response := { status := st, payload := [], readOf := none }

/-- A refusal of a WRITE at a pair or on the whole record, with the index (R178). -/
def refuseAt (st : Status) (i : Nat) : Response :=
  { status := st, payload := [BitVec.ofNat 8 i], readOf := none }

/-- A WRITE of any record (R178): its response, and the state as its owner leaves it. -/
def writeRecord (kind key : Byte) (items : List Byte) (s : State) : Response × State :=
  match recordOf kind key with
  | none => (refuse .badKey, s)
  | some r =>
    if items.isEmpty then (refuseAt .badValue 0, s)
    else
      match checkPairs s r items.length [] items with
      | .bad st i => (refuseAt st i, s)
      | .good pairs =>
        match relationRefusal s r pairs with
        | some st => (refuseAt st pairs.length, s)
        | none => (ok, applyWrite r pairs s)

end Sys2Proof.Machine
end

