-- ==== Sys2Proof/Machine/Port.lean ====
section
/-! DEFINITION. The request port (chapter 10): the bytes of a response, the judgement of a request frame, the settling of
a response at the rise of SEL, and the taking and answering of the request in work; and the two forms every
meaning takes, an event and a request. -/

namespace Sys2Proof.Machine

/-- An event: nothing happens while RST is low (R188). -/
def event (f : State → State) (s : State) : Host.Outcome State Fault Refusal :=
  if s.inReset then .next s else .next (f s)

/-- The request of command c is the one in work, and its owner has not taken it yet (R172, R180). -/
abbrev InWork (c : Instr) (s : State) : Prop :=
  s.port.phase = .working ∧ s.port.work = requestOf c ∧ s.port.restartTaken = false

/-- The owner has answered: the port enters ANSWER holding the response (R172). -/
def answer (r : Response) (s : State) : State :=
  { s with port := { s.port with phase := .answer, held := some r, work := none } }

/-- The status with which the port itself refuses the request in work: UNKNOWN for a code that is not one of the
part's, BAD_VALUE for a payload of another length or form (R172, R186); none where its owner takes it. -/
def portRefusal (s : State) : Option Status :=
  if s.port.phase = .working then
    match s.port.work.map decodeRequest with
    | some (.refused st) => some st
    | some (.command _) | none => none
  else none

/-- The port checks the request in work before any owner sees it, and answers one that it refuses (R172); the table has
no row for that, so a request command, and an idle cycle, bring it about (assumption log 10). -/
def portCheck (s : State) : State :=
  match portRefusal s with
  | some st => answer { status := st, payload := [], readOf := none } s
  | none => s

/-- A request command: the port's own refusal comes first, and otherwise the owner takes the request in work where it is
this command's (R172). A command whose request is not in work changes nothing (assumption log 9). -/
def takeRequest (c : Instr) (f : State → State) (s : State) : State :=
  if InWork c s then f s else portCheck s

/-- A request: its owner takes it as one event and the port answers it (R172). -/
def request (c : Instr) (body : State → Response × State) (s : State) :
    Host.Outcome State Fault Refusal :=
  event (takeRequest c fun s => answer (body s).1 (body s).2) s

/-! ## Frames -/

/-- The bytes of a response: status, M, payload, check (R169). -/
def responseBytes (r : Response) : List Byte :=
  let b := statusByte r.status :: BitVec.ofNat 8 r.payload.length :: r.payload
  b ++ [crc8 b]

/-- The EMPTY response of a port that holds none (R170, R184). -/
def emptyResponse : Response := refuse .empty

/-- The judgement of the bytes received, in the order of R167. -/
inductive Frame where
  | noRequest
  | refused (st : Status)
  | good (q : Request)
  deriving DecidableEq, Repr

/-- R167: what the whole bytes clocked on SDI are. -/
def judgeFrame (sdi : List Byte) : Frame :=
  match sdi with
  | [] => .noRequest
  | l :: _ =>
    let n := l.toNat
    if n = 0 then .noRequest
    else if n = 1 ∨ 62 < n then .refused .badLength
    else if sdi.length < n + 1 then .refused .truncated
    else if crc8 (sdi.take n) ≠ sdi.getD n 0 then .refused .badCheck
    else .good { code := sdi.getD 1 0, payload := (sdi.take n).drop 2 }

/-- The port holds a response in ANSWER. -/
def holdResponse (r : Response) (s : State) : State :=
  { s with port := { s.port with phase := .answer, held := some r } }

/-- The response sent in the transaction is settled (R171): delivered when clocked out in full; otherwise lost, with
the mark of a lost READ's record set again and the HALL mark at the first cut (R183). -/
def settleResponse (n : Nat) (s : State) : State :=
  match s.port.held with
  | none => s
  | some r =>
    let t : State := { s with port := { s.port with held := none } }
    if r.payload.length + 3 ≤ n then t
    else
      let u := markIf (t.hall.cutCount == 0) .hall
        { t with hall := { t.hall with cutCount := satInc max32 t.hall.cutCount } }
      match r.readOf with
      | some rec => mark rec u
      | none => u

/-- The frame received is judged (R171): a good frame is taken into work (R172). -/
def takeFrame (sdi : List Byte) (s : State) : State :=
  match judgeFrame sdi with
  | .noRequest => { s with port := { s.port with phase := .idle } }
  | .refused st => holdResponse (refuse st) s
  | .good q => { s with port := { s.port with phase := .working, work := some q, restartTaken := false } }

/-- A fall of SEL (R170, R173, R174). -/
def selFall (s : State) : State :=
  if s.port.selLow then s
  else
    match s.port.phase with
    | .idle | .answer =>
      { s with port := { s.port with phase := .receiving, selLow := true, overrun := false } }
    | .working =>
      markIf (s.hall.overrunCount == 0) .hall
        { s with
          port := { s.port with selLow := true, overrun := true }
          hall := { s.hall with overrunCount := satInc max32 s.hall.overrunCount } }
    | .starting => { s with port := { s.port with selLow := true, overrun := true } }
    | .receiving => s

/-- A rise of SEL after the levels sdi at the rising edges of SCK, of which whole bytes count (R166, R171): an overrun ends
with no change of port state (R173). -/
def selRise (sdi : List Bool) (s : State) : State :=
  if s.port.selLow = false then s
  else
    let t : State := { s with port := { s.port with selLow := false, overrun := false } }
    if s.port.overrun then t
    else if s.port.phase = .receiving then takeFrame (spiBytes sdi) (settleResponse (spiBytes sdi).length t)
    else t

/-- SEL_FALL (R170). -/
def execSelFall (s : State) : Host.Outcome State Fault Refusal := event selFall s

/-- SEL_RISE (R171). -/
def execSelRise (sdi : List Bool) (s : State) : Host.Outcome State Fault Refusal :=
  event (selRise sdi) s

/-! ## The port's own requests -/

/-- The payload of IDENTIFY (R176). -/
def identifyPayload : List Byte :=
  [0x42, 0x08, 0x32, 0x01] ++ beBytes 6 Config.serialNumber.toNat

/-- IDENTIFY (R176). -/
def execIdentify (s : State) : Host.Outcome State Fault Refusal :=
  request .identify (fun s => (okWith identifyPayload, s)) s

/-- READ of a record (R177): the record as it stands, and its mark cleared. -/
def readRecord (kind key : Byte) (s : State) : Response × State :=
  match recordOf kind key with
  | none => (refuse .badKey, s)
  | some r => ({ status := .ok, payload := readPayload r s, readOf := some r }, unmark r s)

/-- READ (R177). -/
def execRead (kind key : Byte) (s : State) : Host.Outcome State Fault Refusal :=
  request (.read kind key) (readRecord kind key) s

/-- A record stands at or after a starting kind and key in the order of R179. -/
def RecordId.from? (start : Nat × Nat) (r : RecordId) : Bool :=
  decide (start.1 < r.pair.1) || (r.pair.1 == start.1 && decide (start.2 ≤ r.pair.2))

/-- The payload of LIST_CHANGED from a start (R179): all marked records counted, the first 20 from the start on. -/
def listPayload (start : Nat × Nat) (s : State) : List Byte :=
  let rs := ((markedRecords s).filter fun r => r.from? start).take 20
  [BitVec.ofNat 8 (markedRecords s).length, BitVec.ofNat 8 rs.length] ++
    rs.flatMap fun r => [BitVec.ofNat 8 r.pair.1, BitVec.ofNat 8 r.pair.2]

/-- LIST_CHANGED (R179): a start that names no record is refused. -/
def listRecords (start : Option (Byte × Byte)) (s : State) : Response × State :=
  match start with
  | none => (okWith (listPayload (0, 0) s), s)
  | some (kind, key) =>
    match recordOf kind key with
    | none => (refuse .badKey, s)
    | some r => (okWith (listPayload r.pair s), s)

/-- LIST_CHANGED (R179). -/
def execListChanged (start : Option (Byte × Byte)) (s : State) :
    Host.Outcome State Fault Refusal :=
  request (.listChanged start) (listRecords start) s

/-! ## RESTART (R180) -/

/-- A ram at RESTART (R45): OFF, at rest, its mark set when its state or trip cause changes; no notice to its group. -/
def restartRam (r : Fin 8) (s : State) : State :=
  let x := s.rams[r]
  markIf (x.state != .off || x.tripCause != .none) (.ram r)
    (setRam r { x.atRest (midCompare s) with state := .off, tripCause := .none } s)

/-- A group at RESTART (R24). -/
def restartGroup (g : Fin 4) (s : State) : State := putGroup g s.groups[g].toIdle s

/-- A limit at RESTART (R165): CLEAR unless DISABLED, and released if engaged. -/
def restartLimit (i : Fin 24) (s : State) : State :=
  match s.limits[i] with
  | none => s
  | some l =>
    if l.state = .disabled then s
    else
      let t := putLimit i (some { l with state := .clear, counter := 0 }) s
      if l.engaged then notifyRelease l t else t

/-- Every block takes the RESTART as its chapter gives (R180): rams, groups, limits, the round plan, the line and the
locator's slots. -/
def restartBlocks (s : State) : State :=
  restartLine (restartRound (forAll restartLimit (forAll restartGroup (forAll restartRam s))))

/-- RESTART (R180): the blocks take it, and the port stays in WORKING until RESTART_COMPLETE. -/
def execRestart (s : State) : Host.Outcome State Fault Refusal :=
  event (takeRequest .restart fun s =>
    let t := restartBlocks s
    { t with port := { t.port with restartTaken := true } }) s

/-- A RESTART in work has been taken, and no bus clear is still to end (R77, R180). -/
abbrev RestartReady (s : State) : Prop :=
  s.port.phase = .working ∧ s.port.restartTaken = true ∧
    ¬(s.round.restarting = true ∧ s.plan.roundState = .clear)

/-- The byte in progress has ended: the STOP is sent, for one bit time, and the round ends (R60, R77). DESIGN CHOICE
(assumption log 28): with no byte in progress, before the START of the broadcast or of a read, where R77 does not say
whether a STOP is sent, it is sent all the same. -/
def endRestartedByte (s : State) : State := endRestartedRound (stopSent (passTo (s.clk + busBit s) s))

/-- Every block has taken the RESTART: a round still in LATCH or READ ends with its byte in progress, and the port answers
OK (R77, R180). -/
def restartComplete (s : State) : State :=
  if RestartReady s then
    let t := answer ok (if s.round.restarting then endRestartedByte s else s)
    { t with port := { t.port with restartTaken := false } }
  else s

/-- RESTART_COMPLETE (R180). -/
def execRestartComplete (s : State) : Host.Outcome State Fault Refusal := event restartComplete s

end Sys2Proof.Machine
end

