-- ==== Sys2Proof/Machine/Clock.lean ====
section
/-! DEFINITION. What a step does with the queue: it puts a command in front, and it lets one REFCLK cycle pass where no
command waits. -/

namespace Sys2Proof.Machine

/-- No command waits: one REFCLK cycle passes (R25), in which the port refuses a request in work that it does not hand on
(R172; assumption log 10), and none passes while RST is low (R188; assumption log 1). -/
def idleCycle (s : State) : State := if s.inReset then s else portCheck (passTo (s.clk + 1) s)

/-- A command put in front of the queue. -/
def putFront (c : Instr) (s : State) : State := { s with pending := c :: s.pending }

/-- The command that a table word spells put in front of the queue; the state itself where it spells none. -/
def putFrontWord (nbits w : Nat) (s : State) : State :=
  match decodeTableWord nbits w with
  | some c => putFront c s
  | none => s

end Sys2Proof.Machine
end

