-- ==== Sys2Proof/Machine/CrackRequests.lean ====
section
/-! DEFINITION. The requests of the crack table: FIND_CRACK, CRACK_ACK, CRACK_WIDTH, CRACK_RETIRE and CRACK_MERGE (R136 to
R141). -/

namespace Sys2Proof.Machine

/-- The payload of FIND_CRACK: slot key, x_mm and state (R136, Table 11-6). -/
def findPayload (c : Fin 32) (y : Crack) : List Byte :=
  BitVec.ofNat 8 c.val :: encodeValue 4 y.xMm ++ encodeValue 1 y.state.code

/-- FIND_CRACK (R136). -/
def findRequest (x : Word) (s : State) : Response × State :=
  if 250000 < x.toNat then (refuse .badValue, s)
  else
    match nearestCrack x.toNat s with
    | none => (refuse .notFound, s)
    | some (c, _) =>
      match s.cracks[c] with
      | some y => (okWith (findPayload c y), s)
      | none => (refuse .notFound, s)

/-- FIND_CRACK (R136). -/
def execFindCrack (x : BitVec 32) (s : State) : Host.Outcome State Fault Refusal :=
  request (.findCrack x) (findRequest x) s

/-- A slot key is checked before anything else: it names a live record (R136). -/
def onCrack (key : Byte) (f : Fin 32 → Crack → State → Response × State) (s : State) :
    Response × State :=
  if h : key.toNat < 32 then
    match s.cracks[key.toNat] with
    | some y => f ⟨key.toNat, h⟩ y s
    | none => (refuse .badKey, s)
  else (refuse .badKey, s)

/-- CRACK_ACK (R137). -/
def ackRequest (c : Fin 32) (y : Crack) (s : State) : Response × State :=
  if y.acknowledged then (ok, s)
  else (ok, noticeRefs [y.refGroup] (putCrack c (some { y with acknowledged := true }) s))

/-- CRACK_ACK (R137). -/
def execCrackAck (slot : Byte) (s : State) : Host.Outcome State Fault Refusal :=
  request (.crackAck slot) (onCrack slot ackRequest) s

/-- CRACK_WIDTH (R138). -/
def widthRequest (width : BitVec 16) (c : Fin 32) (y : Crack) (s : State) : Response × State :=
  if 10000 < width.toNat then (refuse .badValue, s)
  else
    (ok, noticeRefs [y.refGroup] (putCrack c
      (some { y with width := some { width := width.toNat, inspectedCycle := lifeOf y.refGroup s } }) s))

/-- CRACK_WIDTH (R138). -/
def execCrackWidth (slot : Byte) (width : BitVec 16) (s : State) : Host.Outcome State Fault Refusal :=
  request (.crackWidth slot width) (onCrack slot (widthRequest width)) s

/-- CRACK_RETIRE (R139). -/
def retireRequest (c : Fin 32) (y : Crack) (s : State) : Response × State :=
  (ok, noticeRefs [y.refGroup] (putCrack c none s))

/-- CRACK_RETIRE (R139). -/
def execCrackRetire (slot : Byte) (s : State) : Host.Outcome State Fault Refusal :=
  request (.crackRetire slot) (onCrack slot retireRequest) s

/-- CRACK_MERGE (R140, R141): two different live records, into the slot of lower index. -/
def mergeRequest (a b : Byte) (s : State) : Response × State :=
  onCrack a (fun i x s => onCrack b (fun j y s =>
    if i = j then (refuse .badKey, s)
    else if i < j then (ok, mergeCracks i j x y s)
    else (ok, mergeCracks j i y x s)) s) s

/-- CRACK_MERGE (R141). -/
def execCrackMerge (a b : Byte) (s : State) : Host.Outcome State Fault Refusal :=
  request (.crackMerge a b) (mergeRequest a b) s

end Sys2Proof.Machine
end

