-- ==== Sys2Proof/Machine/GaugeRequests.lean ====
section
/-! DEFINITION. The requests of the round plan, the gauge records and the acoustic pods' counters: GAUGE_ROUND, GAUGE_ARM
(R75), GAUGE_ZERO, PEAK_RESET (R86, R87), POD_COUNTERS_CLEAR (R122). -/

namespace Sys2Proof.Machine

/-! ## Rounds -/

/-- GAUGE_ROUND (R75). -/
def roundRequest (s : State) : Response × State :=
  if s.plan.roundState = .idle then (ok, roundStart .supervisor false s) else (refuse .wrongState, s)

/-- GAUGE_ROUND (R75). -/
def execGaugeRound (s : State) : Host.Outcome State Fault Refusal := request .gaugeRound roundRequest s

/-- GAUGE_ARM ARM (R75): armed is YES and the interval timer restarted (R73). -/
def execGaugeArmArm (s : State) : Host.Outcome State Fault Refusal :=
  request .gaugeArmArm (fun s => (ok, restartTimer (setArmed true s))) s

/-- GAUGE_ARM DISARM (R75). -/
def execGaugeArmDisarm (s : State) : Host.Outcome State Fault Refusal :=
  request .gaugeArmDisarm (fun s => (ok, setArmed false s)) s

/-! ## Gauges -/

/-- A change of one gauge that leaves its state as it is, asked for by a selector (R86, R87): a key, or 0xFF for every
enabled gauge. -/
def onGauges (sel : Byte) (f : Gauge → Gauge) (s : State) : Response × State :=
  if h : sel.toNat < 48 then
    let k : Fin 48 := ⟨sel.toNat, h⟩
    if s.gauges[k].enabled then (ok, { s with gauges := s.gauges.set k (f s.gauges[k]) })
    else (refuse .wrongState, s)
  else if sel = 0xFF then
    (ok, { s with gauges := mapBank (fun _ g => if g.enabled then f g else g) s.gauges })
  else (refuse .badKey, s)

/-- GAUGE_ZERO (R86). -/
def execGaugeZero (sel : Byte) (s : State) : Host.Outcome State Fault Refusal :=
  request (.gaugeZero sel) (onGauges sel fun g => { g with zeroPending := true }) s

/-- PEAK_RESET (R87). -/
def execPeakReset (sel : Byte) (s : State) : Host.Outcome State Fault Refusal :=
  request (.peakReset sel) (onGauges sel Gauge.resetPeaks) s

/-! ## Acoustic pods -/

/-- The counters of one pod cleared, a waiting slot hit carried into them (R122). -/
def APod.clearCounters (a : APod) : APod :=
  { a with
    frameErrors := 0
    podOverflows := 0
    belowAmp := 0
    paired := 0
    unpaired := 0
    received := if a.slot.isSome then 1 else 0
    accepted := if a.slot.isSome then 1 else 0 }

/-- POD_COUNTERS_CLEAR (R122): a pod key, or 0xFF for every pod. -/
def podCountersRequest (sel : Byte) (s : State) : Response × State :=
  if h : sel.toNat < 16 then
    let p : Fin 16 := ⟨sel.toNat, h⟩
    (ok, setAPod p s.apods[p].clearCounters s)
  else if sel = 0xFF then (ok, { s with apods := mapBank (fun _ a => a.clearCounters) s.apods })
  else (refuse .badKey, s)

/-- POD_COUNTERS_CLEAR (R122). -/
def execPodCountersClear (sel : Byte) (s : State) : Host.Outcome State Fault Refusal :=
  request (.podCountersClear sel) (podCountersRequest sel) s

end Sys2Proof.Machine
end

