-- ==== Sys2Proof/Machine/GroupRequests.lean ====
section
/-! DEFINITION. The requests of the group engine: GROUP_RUN, GROUP_PAUSE, GROUP_UNLOAD and GROUP_RELEASE (R9, R14 to R18,
Table 1-6). -/

namespace Sys2Proof.Machine

/-- The group key is checked before anything else (R14). -/
def onGroup (key : Byte) (f : Fin 4 → State → Response × State) (s : State) : Response × State :=
  if h : key.toNat < 4 then f ⟨key.toNat, h⟩ s else (refuse .badKey, s)

/-- GROUP_RUN RESUME (R14, R15). -/
def runResumeRequest (g : Fin 4) (s : State) : Response × State :=
  match runRefusal g s with
  | some st => (refuse st, s)
  | none =>
    if s.groups[g].cursor < s.groups[g].stepCount then (ok, runResume g s) else (refuse .wrongState, s)

/-- GROUP_RUN RESUME (R15). -/
def execGroupRunResume (group : Byte) (s : State) : Host.Outcome State Fault Refusal :=
  request (.groupRunResume group) (onGroup group runResumeRequest) s

/-- GROUP_RUN FROM_STEP (R14, R15): a form byte that is neither RESUME nor a step index is refused after the key and
before the conditions (R186). -/
def runFromStepRequest (form : Byte) (g : Fin 4) (s : State) : Response × State :=
  if 15 < form.toNat then (refuse .badValue, s)
  else
    match runRefusal g s with
    | some st => (refuse st, s)
    | none =>
      if form.toNat < s.groups[g].stepCount then (ok, runFromStep g form.toNat s)
      else (refuse .badValue, s)

/-- GROUP_RUN FROM_STEP (R15). -/
def execGroupRunFromStep (group form : Byte) (s : State) : Host.Outcome State Fault Refusal :=
  request (.groupRunFromStep group form) (onGroup group (runFromStepRequest form)) s

/-- GROUP_PAUSE NOW (R16). -/
def pauseNowRequest (g : Fin 4) (s : State) : Response × State :=
  match s.groups[g].state with
  | .run | .ending => (ok, putGroup g (s.groups[g].toPause .supervisor) s)
  | .pause => (ok, s)
  | .idle | .unload => (refuse .wrongState, s)

/-- GROUP_PAUSE NOW (R16). -/
def execGroupPauseNow (group : Byte) (s : State) : Host.Outcome State Fault Refusal :=
  request (.groupPauseNow group) (onGroup group pauseNowRequest) s

/-- GROUP_PAUSE AT_CYCLE_END (R17). -/
def pauseAtCycleEndRequest (g : Fin 4) (s : State) : Response × State :=
  let x := s.groups[g]
  match x.state with
  | .run =>
    if isCycling g s then (ok, putGroup g { x with state := .ending, pauseCause := .supervisor } s)
    else (ok, putGroup g (x.toPause .supervisor) s)
  | .ending | .pause => (ok, s)
  | .idle | .unload => (refuse .wrongState, s)

/-- GROUP_PAUSE AT_CYCLE_END (R17). -/
def execGroupPauseAtCycleEnd (group : Byte) (s : State) : Host.Outcome State Fault Refusal :=
  request (.groupPauseAtCycleEnd group) (onGroup group pauseAtCycleEndRequest) s

/-- GROUP_UNLOAD (R18). -/
def unloadRequest (g : Fin 4) (s : State) : Response × State :=
  match s.groups[g].state with
  | .run | .ending | .pause => (ok, unloadGroup g s)
  | .idle | .unload => (ok, s)

/-- GROUP_UNLOAD (R18). -/
def execGroupUnload (group : Byte) (s : State) : Host.Outcome State Fault Refusal :=
  request (.groupUnload group) (onGroup group unloadRequest) s

/-- GROUP_RELEASE (R9): the INSPECT step at the cursor of a group in RUN is done. -/
def releaseRequest (g : Fin 4) (s : State) : Response × State :=
  let x := s.groups[g]
  if x.state = .run ∧ (stepOf g x.cursor s).kind = .inspect then
    (ok, putGroup g (x.stepDone (stepOf g (x.cursor + 1) s)) s)
  else (refuse .wrongState, s)

/-- GROUP_RELEASE (R9). -/
def execGroupRelease (group : Byte) (s : State) : Host.Outcome State Fault Refusal :=
  request (.groupRelease group) (onGroup group releaseRequest) s

end Sys2Proof.Machine
end

