-- ==== Sys2Proof/Machine/LimitRequests.lean ====
section
/-! DEFINITION. The requests of the limit table: LIMIT_ACK and LIMIT_RETIRE (R162, R163). -/

namespace Sys2Proof.Machine

/-- A slot key is checked before anything else: it names a defined limit (R162). -/
def onLimit (key : Byte) (f : Fin 24 → Limit → State → Response × State) (s : State) :
    Response × State :=
  if h : key.toNat < 24 then
    match s.limits[key.toNat] with
    | some l => f ⟨key.toNat, h⟩ l s
    | none => (refuse .badKey, s)
  else (refuse .badKey, s)

/-- LIMIT_ACK (R162): the release first, then the evaluation. -/
def limitAckRequest (i : Fin 24) (l : Limit) (s : State) : Response × State :=
  if l.state = .latched then
    (ok, evalLimit i (notifyRelease l (putLimit i (some { l with state := .clear, counter := 0 }) s)))
  else (refuse .wrongState, s)

/-- LIMIT_ACK (R162). -/
def execLimitAck (slot : Byte) (s : State) : Host.Outcome State Fault Refusal :=
  request (.limitAck slot) (onLimit slot limitAckRequest) s

/-- LIMIT_RETIRE (R163). -/
def limitRetireRequest (i : Fin 24) (l : Limit) (s : State) : Response × State :=
  let t := putLimit i none s
  (ok, if l.engaged then notifyRelease l t else t)

/-- LIMIT_RETIRE (R163). -/
def execLimitRetire (slot : Byte) (s : State) : Host.Outcome State Fault Refusal :=
  request (.limitRetire slot) (onLimit slot limitRetireRequest) s

end Sys2Proof.Machine
end

