-- ==== Sys2Proof/Machine/LineEvents.lean ====
section
/-! DEFINITION. The events of the acoustic line (R92 to R104): slots, replies, contention, quiet waits, request pulses and
the stuck line. An event whose conditions do not hold in the present state cannot occur, and changes nothing
(assumption log 9). -/

namespace Sys2Proof.Machine

/-- The µs since the release of reset at which hall time, after µs m, next reaches a whole multiple of 100,000 µs, hall
time 0 at a wrap included (R97). -/
def nextTimeFrame (m : Nat) : Nat :=
  let h := m % 2 ^ 32
  m + min (100000 - h % 100000) (2 ^ 32 - h)

/-- A TIME frame falls due, once for each multiple; only one is ever due (R97). -/
def timeFrameDue (s : State) : State :=
  let t := passTo (us s.line.nextTime) s
  setLine { t.line with timeDue := true, nextTime := nextTimeFrame s.line.nextTime } t

/-- TIME_FRAME_DUE (R97). -/
def execTimeFrameDue (s : State) : Host.Outcome State Fault Refusal := event timeFrameDue s

/-- The time of the next slot is reached (R96), or the line has settled after a RESTART (R109). While the line is
STUCK no slot opens (R104). -/
def slotOpen (dominant : Bool) (s : State) : State :=
  if s.crackset.lineState = .stuck then s
  else
    match s.line.frame with
    | .idle => openSlot dominant (passTo s.line.nextSlot s)
    | .settling since =>
      let t := passTo (since + us 80) s
      openSlot dominant (setLine { t.line with frame := .idle } t)
    | .held _ | .time _ | .poll _ _ _ | .quiet _ _ => s

/-- SLOT_OPEN (R96). -/
def execSlotOpen (dominant : Bool) (s : State) : Host.Outcome State Fault Refusal :=
  event (slotOpen dominant) s

/-- contention_count increases by one (R92). -/
def countContention (s : State) : State :=
  { s with
    crackset := { s.crackset with contentionCount := satInc max32 s.crackset.contentionCount } }

/-- The clock at the middle of a bit of a frame, at which the LF832 compares it with the line (R91, R92). -/
def bitMiddle (began bit : Nat) : Nat := began + us (4 * bit + 2)

/-- The bit of a frame, counted from the start bit of its first byte, whose middle comes next or is now. -/
def nextBit (began : Nat) (s : State) : Nat := (s.clk - began + us 2 - 1) / us 4

/-- A bit the LF832 is sending reads back differently at its middle (R92): the next of the ten of a POLL or the fifty of a
TIME frame; after the middle of the last there is none. -/
def contention (s : State) : State :=
  match s.line.frame with
  | .poll p began counted =>
    if nextBit began s < 10 then
      beginQuiet began
        (pollOutcome p counted .contention (countContention (passTo (bitMiddle began (nextBit began s)) s)))
    else s
  | .time began =>
    if nextBit began s < 50 then
      beginQuiet began (countContention (passTo (bitMiddle began (nextBit began s)) s))
    else s
  | .idle | .held _ | .quiet _ _ | .settling _ => s

/-- CONTENTION (R92). -/
def execContention (s : State) : Host.Outcome State Fault Refusal := event contention s

/-- The reply to the POLL of pod p fails at its n-th byte, at the middle of that byte's stop bit (R99). -/
def replyFails (p : Fin 16) (began : Nat) (counted : Bool) (n : Nat) (s : State) : State :=
  beginQuiet began (pollOutcome p counted .frameError (passTo (began + us (38 + 40 * n)) s))

/-- A byte of a reply has not begun in time (R99): no reply byte within 60 µs of the poll's stop bit (SILENT), or no
following byte within 80 µs of the last reply byte (GAP). The frame ends there (R101). Falls in which a byte fails end the
reply at that byte. -/
def replyTimeout (falls : List LineFall) (s : State) : State :=
  match s.line.frame with
  | .poll p began counted =>
    match receive falls with
    | .waiting [] => frameEnd began (pollOutcome p counted .silent (passTo (began + us 100) s))
    | .waiting bytes =>
      frameEnd began (pollOutcome p counted .gap (passTo (began + us (120 + 40 * bytes.length)) s))
    | .failed n => replyFails p began counted n s
    | .complete _ => s
  | .idle | .held _ | .time _ | .quiet _ _ | .settling _ => s

/-- REPLY_TIMEOUT (R99). -/
def execReplyTimeout (falls : List LineFall) (s : State) : Host.Outcome State Fault Refusal :=
  event (replyTimeout falls) s

/-- A reply byte has a dominant stop bit, or is a hit count of 7 (R99): the first byte, at the earliest (assumption
log 13). -/
def replyFrameError (s : State) : State :=
  match s.line.frame with
  | .poll p began counted => replyFails p began counted 1 s
  | .idle | .held _ | .time _ | .quiet _ _ | .settling _ => s

/-- REPLY_FRAME_ERROR (R99). -/
def execReplyFrameError (s : State) : Host.Outcome State Fault Refusal := event replyFrameError s

/-- The check byte of a reply has been received (R100). Falls in which a byte fails end the reply at that byte (R99). -/
def replyReceived (falls : List LineFall) (s : State) : State :=
  match s.line.frame with
  | .poll p began counted =>
    match receive falls with
    | .complete reply => takeReply p began counted reply (passTo (began + us (40 + 40 * reply.length)) s)
    | .failed n => replyFails p began counted n s
    | .waiting _ => s
  | .idle | .held _ | .time _ | .quiet _ _ | .settling _ => s

/-- REPLY_RECEIVED (R100). -/
def execReplyReceived (falls : List LineFall) (s : State) : Host.Outcome State Fault Refusal :=
  event (replyReceived falls) s

/-- The line has stayed recessive for 80 µs, or 5 ms have passed (R101). -/
def quietWaitEnd (s : State) : State :=
  match s.line.frame with
  | .quiet began since => frameEnd began (passTo (since + us 80) s)
  | .idle | .held _ | .time _ | .poll _ _ _ | .settling _ => s

/-- QUIET_WAIT_END (R101). -/
def execQuietWaitEnd (s : State) : Host.Outcome State Fault Refusal := event quietWaitEnd s

/-- A dominant level of the idle line has ended after at least 100 µs and less than 5 ms (R103). DESIGN CHOICE (assumption
log 30): for a level that began inside a frame and ends on the idle line, where R103 does not say whether it is a pulse or
which part of it counts, only the line being idle at its end and the length that the command gives decide. -/
def requestPulse (usec : Nat) (s : State) : State :=
  if s.crackset.lineState = .ok ∧ lineIdle s = true ∧ 100 ≤ usec ∧ usec < 5000 then requestSweep s else s

/-- REQUEST_PULSE (R103). -/
def execRequestPulse (usec : Nat) (s : State) : Host.Outcome State Fault Refusal :=
  event (requestPulse usec) s

/-- LINE_STUCK (R104). -/
def execLineStuck (s : State) : Host.Outcome State Fault Refusal :=
  event (fun s => if s.crackset.lineState = .ok then enterStuck s else s) s

/-- The line has been recessive for 10 ms: line_state returns to OK and the first slot opens at once (R104). -/
def lineRecovered (s : State) : State :=
  if s.crackset.lineState = .stuck then
    let t := setLineState .ok (passTo (s.line.stuckSince + us 10000) s)
    openSlot false (setLine { t.line with nextSlot := t.clk } t)
  else s

/-- LINE_RECOVERED (R104). -/
def execLineRecovered (s : State) : Host.Outcome State Fault Refusal := event lineRecovered s

/-- The stop bit of the fifth byte of a TIME frame has ended (R95, R101). -/
def timeFrameEnd (s : State) : State :=
  match s.line.frame with
  | .time began => frameEnd began (passTo (began + us 200) s)
  | .idle | .held _ | .poll _ _ _ | .quiet _ _ | .settling _ => s

/-- TIME_FRAME_END (R101). -/
def execTimeFrameEnd (s : State) : Host.Outcome State Fault Refusal := event timeFrameEnd s

/-- The line has returned recessive while a frame was held back (R93). -/
def heldFrameBegin (s : State) : State :=
  match s.line.frame with
  | .held f => beginHeld f s
  | .idle | .time _ | .poll _ _ _ | .quiet _ _ | .settling _ => s

/-- HELD_FRAME_BEGIN (R93). -/
def execHeldFrameBegin (s : State) : Host.Outcome State Fault Refusal := event heldFrameBegin s

end Sys2Proof.Machine
end

