-- ==== Sys2Proof/Machine/Force.lean ====
section
/-! DEFINITION. What a ram channel does with a sample set: conversion (R30, R48), the checks of an ACTIVE ram (R39 to
R41) and the force chain (R49 to R58). -/

namespace Sys2Proof.Machine

/-- The three counts of a ram converted, in every state (R30, R48). -/
def Ram.convert (r : Ram) (cLoad cStroke cCoil : Int) : Ram :=
  { r with
    force := roundDiv ((cLoad - r.loadZero) * r.fsForce) 32767
    stroke := roundDiv ((cStroke - r.strokeZero) * r.fsStroke) 32767
    coilMa := roundDiv (cCoil * r.coilFsMa) 32767
    loadCount := cLoad }

/-- A load count at a rail of the converter (R34, R39). -/
def atRail (c : Int) : Bool := c == -32768 || c == 32767

/-- stroke lies within its bounds (R34, R39). -/
def Ram.strokeInside (r : Ram) : Bool := decide (r.strokeMin ≤ r.stroke) && decide (r.stroke ≤ r.strokeMax)

/-- A coil fault: the command in force was 20% or more and the measured current is below 25% of it (R41). -/
def Ram.coilFault (r : Ram) : Bool :=
  decide (2000 ≤ r.u.natAbs) && decide (r.coilMa.natAbs * 40000 < r.u.natAbs * r.coilFsMa)

/-- coil_count after the coil check (R41). -/
def Ram.countCoil (r : Ram) : Ram := { r with coilCount := if r.coilFault then r.coilCount + 1 else 0 }

/-- The derated demand of a ram: its share of G_N, then the derate factor (R50, R51). -/
def Ram.demand (r : Ram) (gN : Int) (derate : Nat) : Int :=
  roundDiv (roundDiv (gN * r.share) 10000 * derate) 1000

/-- The setpoint moves from its previous value toward d by at most slew_max (R53). -/
def slewed (old d : Int) (slewMax : Nat) : Int :=
  if (d - old).natAbs ≤ slewMax then d
  else if old < d then old + slewMax else old - slewMax

/-- The pulse compare of a valve command (R58). -/
def pulseCompare (pwmPeriod : Nat) (u : Int) : Nat := (roundDiv (pwmPeriod * (10000 + u)) 20000).toNat

/-- The integrator's bound: full valve opening in units of 2^-24 valve counts (R56). -/
def integratorTop : Int := 10000 * 2 ^ 24

/-- The force chain of an ACTIVE ram at one sample set, its force already converted (R49 to R58). -/
def Ram.chain (r : Ram) (gN : Int) (derate pwmPeriod : Nat) : Ram :=
  let d2 := r.demand gN derate
  let d3 := limitTo r.fMin r.fMax d2
  let sp := slewed r.setpoint d3 r.slewMax
  let e := sp - r.force
  let p := roundDiv (e * r.kp) (2 ^ 20)
  let i' := limitTo (-integratorTop) integratorTop (r.integrator + e * r.ki)
  let raw := p + roundDiv i' (2 ^ 24)
  let u := limitTo (-10000) 10000 raw
  { r with
    setpoint := sp
    u := u
    trackError := e.natAbs
    clamped := d3 != d2
    slewLimited := decide (r.slewMax < (d3 - r.setpoint).natAbs)
    saturated := u.natAbs == 10000
    integrator :=
      if 10000 < raw then (if e ≤ 0 then i' else r.integrator)
      else if raw < -10000 then (if 0 ≤ e then i' else r.integrator)
      else i'
    shadowCompare := pulseCompare pwmPeriod u }

/-- sat_count after the saturation check (R40). -/
def Ram.countSat (r : Ram) : Ram := { r with satCount := if r.u.natAbs = 10000 then r.satCount + 1 else 0 }

/-- A ram channel takes its three counts of a sample set (R30, R39): conversion; then, while ACTIVE, the load input,
the stroke, the coil, the force chain and the saturation check, stopping at the first trip. -/
def takeCounts (r : Fin 8) (cLoad cStroke cCoil : Int) (s : State) : State :=
  let x := s.rams[r].convert cLoad cStroke cCoil
  let t := setRam r x s
  if x.state ≠ .active then t
  else if atRail cLoad then tripRam .input r t
  else if x.strokeInside = false then tripRam .stroke r t
  else
    let y := x.countCoil
    let t := setRam r y t
    if y.coilFault && decide (y.coilPeriods ≤ y.coilCount) then tripRam .coil r t
    else
      let g := t.groups[y.group]
      let z := (y.chain g.newtons g.derate t.hall.pwmPeriod).countSat
      let t := setRam r z t
      if z.satPeriods < z.satCount then tripRam .saturation r t else t

end Sys2Proof.Machine
end

