-- ==== Sys2Proof/Machine/PlantEvents.lean ====
section
/-! DEFINITION. The commands of the time base, the scanner, the pulse outputs, the hall inputs and reset (chapter 2,
R174, R188). -/

namespace Sys2Proof.Machine

/-! ## Reset -/

/-- RESET_ASSERT (R188): RST is taken as low. The outputs of Outputs.lean are then low, and no command but the release
of reset changes anything. -/
def execResetAssert (s : State) : Host.Outcome State Fault Refusal := .next { s with inReset := true }

/-- POWER_ON_RESET (R188): the power-on values of every chapter, with the hall inputs as they stand (R42, R45). The
commands still waiting keep their places. -/
def execPowerOnReset (hpu : HpuLevel) (estop : EstopLevel) (s : State) :
    Host.Outcome State Fault Refusal :=
  .next { State.powerOn hpu estop with pending := s.pending }

/-! ## The control tick -/

/-- The clock at the next control tick: every 500 µs from the release of reset (R25). -/
def tickTime (s : State) : Nat := us 500 * (s.ticks + 1)

/-- The length of a scan from its tick, with the settings as they stand (R26). -/
def scanTime (s : State) : Nat := us (s.hall.scanDelayUs + 28 * (s.hall.settleUs + 3))

/-- What a control tick does to the round plan: the TIMED count (R73), the DELAY count (R64) and the rest flag
(R74). What the counts and the flag bring about are commands of their own: INTERVAL_TIMER_EXPIRY, DELAY_EXPIRY,
CYCLIC_START. -/
def tickRound (p : Plan) (r : Round) : Round :=
  { r with
    intervalCount := if p.source = .timed then r.intervalCount - 1 else r.intervalCount
    delayCount := if p.roundState = .delay then r.delayCount - 1 else r.delayCount
    restFlag := if p.roundState = .idle then false else r.restFlag
    cyclicDue := p.roundState == .idle && !r.restFlag && p.mode == .cyclic && p.armed }

/-- One control tick (R25): a scan starts (R26), the round plan counts, the port leaves STARTING (R174). -/
def controlTick (s : State) : State :=
  let t := passTo (tickTime s) s
  { t with
    ticks := s.ticks + 1
    scanEnds := some (tickTime s + scanTime s)
    round := tickRound s.plan s.round
    port := if s.port.phase = .starting then { s.port with phase := .idle } else s.port }

/-- CONTROL_TICK (R25). -/
def execControlTick (s : State) : Host.Outcome State Fault Refusal := event controlTick s

/-! ## The sample set -/

/-- The count of one scan position, from −32768 to 32767 (R26). -/
def countAt (counts : Vector (BitVec 16) 28) (i : Fin 28) : Int := (counts[i]).toInt

/-- RAM r takes its three counts of the set, at the positions of Table 2-1. -/
def takeRam (counts : Vector (BitVec 16) 28) (r : Fin 8) (s : State) : State :=
  takeCounts r (countAt counts ⟨3 * r.val, by omega⟩) (countAt counts ⟨3 * r.val + 1, by omega⟩)
    (countAt counts ⟨3 * r.val + 2, by omega⟩) s

/-- The aux fields take the counts of positions 24 to 27 (R27). -/
def takeAux (counts : Vector (BitVec 16) 28) (s : State) : State :=
  { s with
    sampled := true
    hall := { s.hall with aux := Vector.ofFn fun (i : Fin 4) => countAt counts ⟨24 + i.val, by omega⟩ } }

/-- A sample set at the end of the scan in progress (R27): the rams, the aux fields, the group advance (R2, R5),
and the ram and aux limits (R153), in this order (assumption log 5). -/
def sampleSet (counts : Vector (BitVec 16) 28) (s : State) : State :=
  match s.scanEnds with
  | none => s
  | some e =>
    let t := forAll (takeRam counts) { passTo e s with scanEnds := none }
    evalWhere Limit.isPlant (forAll advanceGroup (takeAux counts t))

/-- SAMPLE_SET (R27). -/
def execSampleSet (counts : Vector (BitVec 16) 28) (s : State) : Host.Outcome State Fault Refusal :=
  event (sampleSet counts) s

/-! ## The pulse outputs -/

/-- A pulse period starts (R32): the counter returns to 0 and every active compare takes the shadow compare. -/
def pulsePeriodStart (s : State) : State :=
  let t := passTo (s.pulseStart + s.hall.pwmPeriod) s
  { t with
    pulseStart := s.pulseStart + s.hall.pwmPeriod
    rams := mapBank (fun _ x => { x with activeCompare := x.shadowCompare }) s.rams }

/-- PULSE_PERIOD_START (R32). -/
def execPulsePeriodStart (s : State) : Host.Outcome State Fault Refusal := event pulsePeriodStart s

/-! ## The hall inputs (R42) -/

/-- The filtered ESTOP input changes to ASSERTED: every ACTIVE ram trips. -/
def estopAssert (s : State) : State :=
  if s.hall.estop = .clear then tripAll .estop { s with hall := { s.hall with estop := .asserted } }
  else s

/-- ESTOP_ASSERT (R42). -/
def execEstopAssert (s : State) : Host.Outcome State Fault Refusal := event estopAssert s

/-- ESTOP_RELEASE (R42): no ram state changes. -/
def execEstopRelease (s : State) : Host.Outcome State Fault Refusal :=
  event (fun s => { s with hall := { s.hall with estop := .clear } }) s

/-- The filtered HPU_READY input falls: every ACTIVE ram trips. -/
def hpuReadyFall (s : State) : State :=
  if s.hall.hpuReady = .high then tripAll .pressure { s with hall := { s.hall with hpuReady := .low } }
  else s

/-- HPU_READY_FALL (R42). -/
def execHpuReadyFall (s : State) : Host.Outcome State Fault Refusal := event hpuReadyFall s

/-- HPU_READY_RISE (R42): no ram state changes. -/
def execHpuReadyRise (s : State) : Host.Outcome State Fault Refusal :=
  event (fun s => { s with hall := { s.hall with hpuReady := .high } }) s

end Sys2Proof.Machine
end

