-- ==== Sys2Proof/Machine/RamRequests.lean ====
section
/-! DEFINITION. The requests of the ram channels: RAM_START, RAM_STOP and RAM_CLEAR (R34 to R37). -/

namespace Sys2Proof.Machine

/-- The ram key is checked before anything else (R34). -/
def onRam (key : Byte) (f : Fin 8 → State → Response × State) (s : State) : Response × State :=
  if h : key.toNat < 8 then f ⟨key.toNat, h⟩ s else (refuse .badKey, s)

/-- The nine conditions of R34, in order; none where they all hold. -/
def startRefusal (r : Fin 8) (s : State) : Option Status :=
  let x := s.rams[r]
  let g := s.groups[x.group]
  if s.sampled = false then some .wrongState
  else if x.state ≠ .off then some .wrongState
  else if x.fsForce = 0 then some .wrongState
  else if s.hall.hpuReady = .low then some .noPressure
  else if s.hall.estop = .asserted then some .noPressure
  else if g.state ≠ .idle ∧ g.state ≠ .pause then some .wrongState
  else if x.strokeInside = false then some .wrongState
  else if atRail x.loadCount then some .wrongState
  else if 5 ≤ g.severity then some .limitActive
  else none

/-- Entry to ACTIVE (R35, R59). -/
def Ram.start (mid : Nat) (x : Ram) : Ram :=
  { x.atRest mid with state := .active, setpoint := limitTo x.fMin x.fMax x.force }

/-- RAM_START (R34, R35). -/
def startRequest (r : Fin 8) (s : State) : Response × State :=
  match startRefusal r s with
  | some st => (refuse st, s)
  | none => (ok, mark (.ram r) (setRam r (s.rams[r].start (midCompare s)) s))

/-- RAM_START (R35). -/
def execRamStart (ram : Byte) (s : State) : Host.Outcome State Fault Refusal :=
  request (.ramStart ram) (onRam ram startRequest) s

/-- RAM_STOP (R36). -/
def stopRequest (r : Fin 8) (s : State) : Response × State :=
  let x := s.rams[r]
  match x.state with
  | .active =>
    if s.groups[x.group].state = .idle then
      (ok, mark (.ram r) (setRam r { x.atRest (midCompare s) with state := .off } s))
    else (refuse .wrongState, s)
  | .off => (ok, s)
  | .tripped => (refuse .wrongState, s)

/-- RAM_STOP (R36). -/
def execRamStop (ram : Byte) (s : State) : Host.Outcome State Fault Refusal :=
  request (.ramStop ram) (onRam ram stopRequest) s

/-- RAM_CLEAR (R37). -/
def clearRequest (r : Fin 8) (s : State) : Response × State :=
  let x := s.rams[r]
  match x.state with
  | .tripped => (ok, mark (.ram r) (setRam r { x with state := .off, tripCause := .none } s))
  | .off | .active => (refuse .wrongState, s)

/-- RAM_CLEAR (R37). -/
def execRamClear (ram : Byte) (s : State) : Host.Outcome State Fault Refusal :=
  request (.ramClear ram) (onRam ram clearRequest) s

end Sys2Proof.Machine
end

