-- ==== Sys2Proof/Machine/RoundEvents.lean ====
section
/-! DEFINITION. The events of the round plan and the gauge bus (R61 to R74): the expiries that a control tick's counts
bring about, and what the bus reports of its transactions. An event whose conditions do not hold in the present state
cannot occur, and changes nothing (assumption log 9). -/

namespace Sys2Proof.Machine

/-- The interval timer stands at 0 while source is TIMED: it is set again and raises a TIMED trigger (R73). -/
def intervalTimerExpiry (s : State) : State :=
  if s.plan.source = .timed ∧ s.round.intervalCount = 0 then trigger .timed (restartTimer s) else s

/-- INTERVAL_TIMER_EXPIRY (R73). -/
def execIntervalTimerExpiry (s : State) : Host.Outcome State Fault Refusal := event intervalTimerExpiry s

/-- A tick in IDLE has found the rest flag clear, and the plan is armed and in mode CYCLIC: a round of kind CYCLIC
starts, with its delay (R74). -/
def cyclicStart (s : State) : State :=
  if s.round.cyclicDue = true ∧ s.plan.roundState = .idle ∧ s.plan.mode = .cyclic ∧ s.plan.armed = true then
    roundStart .cyclic true s
  else s

/-- CYCLIC_START (R74). -/
def execCyclicStart (s : State) : Host.Outcome State Fault Refusal := event cyclicStart s

/-- The DELAY count stands at 0: the round goes on (R64). -/
def delayExpiry (s : State) : State :=
  if s.plan.roundState = .delay ∧ s.round.delayCount = 0 then roundGoesOn s else s

/-- DELAY_EXPIRY (R64). -/
def execDelayExpiry (s : State) : Host.Outcome State Fault Refusal := event delayExpiry s

/-- The bit times of the latch broadcast, by whether its address byte was acknowledged (R60, R65). -/
def latchBits (addrAck : Bool) : Nat := if addrAck then 20 else 11

/-- The STOP of the latch broadcast (R65). -/
def latchBroadcastDone (addrAck dataAck : Bool) (s : State) : State :=
  if s.plan.roundState = .latch ∧ s.round.restarting = false then
    let t := stopSent (passTo (s.round.busStart + latchBits addrAck * busBit s) s)
    let t := setRound { t.round with latchAnswered := addrAck && dataAck } t
    if t.round.pods.isEmpty then completeRound false t else enterWait t
  else s

/-- LATCH_BROADCAST_DONE (R65). -/
def execLatchBroadcastDone (addrAck dataAck : Bool) (s : State) : Host.Outcome State Fault Refusal :=
  event (latchBroadcastDone addrAck dataAck) s

/-- latch_wait_us has expired: the read of the first pod begins (R67). -/
def latchWaitExpiry (s : State) : State :=
  if s.plan.roundState = .wait then
    let t := passTo s.round.waitEnds s
    setRound (busBegin t.clk t.round) (setPlan { t.plan with roundState := .read } t)
  else s

/-- LATCH_WAIT_EXPIRY (R67). -/
def execLatchWaitExpiry (s : State) : Host.Outcome State Fault Refusal := event latchWaitExpiry s

/-- The bit times of a pod read (R60, R68). -/
def readBits : PodReply → Nat
  | .nack => 11
  | .bits _ => 137

/-- A pod read has ended and is judged (R68, R69). -/
def podReadDone (reply : PodReply) (s : State) : State :=
  if s.plan.roundState = .read ∧ s.round.restarting = false then
    podJudged reply (stopSent (passTo (s.round.busStart + readBits reply * busBit s) s))
  else s

/-- POD_READ_DONE (R69). -/
def execPodReadDone (reply : PodReply) (s : State) : Host.Outcome State Fault Refusal :=
  event (podReadDone reply) s

/-- A stretch has lasted longer than the stretch_limit_us of its release of SCL (R61): the latch is not answered (R66), the
pod being read is missed (R70) unless a RESTART is ending the round (R77), and the bus clear begins. In CLEAR the clear
itself reports it (R62, BUS_CLEAR_DONE). -/
def stretchTimeout (s : State) : State :=
  let t := passTo (stretchEnd s) s
  match s.plan.roundState with
  | .latch => clearStart .latch (setRound { t.round with latchAnswered := false } t)
  | .read =>
    match s.round.restarting, s.round.todo with
    | false, p :: _ => clearStart .pod (roundMiss p .stretch t)
    | _, _ => clearStart .pod t
  | .idle | .delay | .wait | .clear => s

/-- STRETCH_TIMEOUT (R61). -/
def execStretchTimeout (s : State) : Host.Outcome State Fault Refusal := event stretchTimeout s

/-- The earliest end of a bus clear (R60, R62): after the pulses sent and, where it succeeds, the STOP; or at the limit
of the stretch of one release (R61). -/
def clearEnd (result : BusClearEnd) (s : State) : Nat :=
  match result with
  | .sdaHigh n => s.round.busStart + (n.val + 2) * busBit s
  | .sdaLow => s.round.busStart + 9 * busBit s
  | .sclHeld => stretchEnd s

/-- A bus clear has ended (R62). -/
def busClearDone (result : BusClearEnd) (s : State) : State :=
  if s.plan.roundState = .clear then
    let t := passTo (clearEnd result s) s
    match result with
    | .sdaHigh _ => clearSucceeded t
    | .sdaLow | .sclHeld => clearFailed t
  else s

/-- BUS_CLEAR_DONE (R62). -/
def execBusClearDone (result : BusClearEnd) (s : State) : Host.Outcome State Fault Refusal :=
  event (busClearDone result) s

end Sys2Proof.Machine
end

