-- ==== Sys2Proof/Machine/WriteRequests.lean ====
section
/-! DEFINITION. The WRITE request under each of its names (R178). All of them are the one WRITE request: the rows of the
table name what it does to the record it carries. -/

namespace Sys2Proof.Machine

/-- WRITE of any record (R178). -/
def execWrite (kind key : Byte) (items : List Byte) (s : State) : Host.Outcome State Fault Refusal :=
  request (.write kind key items) (writeRecord kind key items) s

/-- STEP_WRITE (R4): a WRITE of a STEP record, or of a GROUP's step_count. -/
def execStepWrite (kind key : Byte) (items : List Byte) (s : State) :
    Host.Outcome State Fault Refusal :=
  request (.stepWrite kind key items) (writeRecord kind key items) s

/-- SEAT_LOAD_WRITE (R19): a WRITE of a GROUP that names seat_load. -/
def execSeatLoadWrite (group : Byte) (items : List Byte) (s : State) :
    Host.Outcome State Fault Refusal :=
  request (.seatLoadWrite group items) (writeRecord 2 group items) s

/-- ZONE_WRITE (R126): a WRITE of a GROUP that names a zone field. -/
def execZoneWrite (group : Byte) (items : List Byte) (s : State) :
    Host.Outcome State Fault Refusal :=
  request (.zoneWrite group items) (writeRecord 2 group items) s

/-- GAUGE_ENABLE (R79): a WRITE of a GAUGE that carries enabled YES. -/
def execGaugeEnable (gauge : Byte) (items : List Byte) (s : State) :
    Host.Outcome State Fault Refusal :=
  request (.gaugeEnable gauge items) (writeRecord 5 gauge items) s

/-- GAUGE_DISABLE (R79): a WRITE of a GAUGE that carries enabled NO. -/
def execGaugeDisable (gauge : Byte) (items : List Byte) (s : State) :
    Host.Outcome State Fault Refusal :=
  request (.gaugeDisable gauge items) (writeRecord 5 gauge items) s

/-- APOD_ENABLE (R106): a WRITE of an APOD that carries enabled YES. -/
def execApodEnable (pod : Byte) (items : List Byte) (s : State) :
    Host.Outcome State Fault Refusal :=
  request (.apodEnable pod items) (writeRecord 7 pod items) s

/-- APOD_DISABLE (R106): a WRITE of an APOD that carries enabled NO. -/
def execApodDisable (pod : Byte) (items : List Byte) (s : State) :
    Host.Outcome State Fault Refusal :=
  request (.apodDisable pod items) (writeRecord 7 pod items) s

/-- PLAN_WRITE (R72): a WRITE of the PLAN record. -/
def execPlanWrite (key : Byte) (items : List Byte) (s : State) : Host.Outcome State Fault Refusal :=
  request (.planWrite key items) (writeRecord 4 key items) s

/-- PWM_PERIOD_WRITE (R32): a WRITE of HALL that names pwm_period. -/
def execPwmPeriodWrite (key : Byte) (items : List Byte) (s : State) :
    Host.Outcome State Fault Refusal :=
  request (.pwmPeriodWrite key items) (writeRecord 0 key items) s

/-- ATTENTION_MASK_WRITE (R182): a WRITE of HALL that names attention_mask. -/
def execAttentionMaskWrite (key : Byte) (items : List Byte) (s : State) :
    Host.Outcome State Fault Refusal :=
  request (.attentionMaskWrite key items) (writeRecord 0 key items) s

/-- LIMIT_DEFINE (R146): a WRITE to an EMPTY limit slot. -/
def execLimitDefine (slot : Byte) (items : List Byte) (s : State) :
    Host.Outcome State Fault Refusal :=
  request (.limitDefine slot items) (writeRecord 10 slot items) s

/-- LIMIT_EDIT (R148): a WRITE of a limit that names a field other than enabled. -/
def execLimitEdit (slot : Byte) (items : List Byte) (s : State) :
    Host.Outcome State Fault Refusal :=
  request (.limitEdit slot items) (writeRecord 10 slot items) s

/-- LIMIT_ENABLE (R149): a WRITE of a limit that carries enabled YES. -/
def execLimitEnable (slot : Byte) (items : List Byte) (s : State) :
    Host.Outcome State Fault Refusal :=
  request (.limitEnable slot items) (writeRecord 10 slot items) s

/-- LIMIT_DISABLE (R149): a WRITE of a limit that carries enabled NO. -/
def execLimitDisable (slot : Byte) (items : List Byte) (s : State) :
    Host.Outcome State Fault Refusal :=
  request (.limitDisable slot items) (writeRecord 10 slot items) s

end Sys2Proof.Machine
end

