-- ==== Sys2Proof/Machine/Dispatch.lean ====
section
/-! DEFINITION. The meaning of every command: one arm per constructor of Instr, one direct call of its meaning. -/

namespace Sys2Proof.Machine

def exec (i : Instr) (s : State) : Host.Outcome State Fault Refusal :=
  match i with
  | .resetAssert => Sys2Proof.Machine.execResetAssert s
  | .powerOnReset hpu estop => Sys2Proof.Machine.execPowerOnReset hpu estop s
  | .controlTick => Sys2Proof.Machine.execControlTick s
  | .sampleSet counts => Sys2Proof.Machine.execSampleSet counts s
  | .pulsePeriodStart => Sys2Proof.Machine.execPulsePeriodStart s
  | .estopAssert => Sys2Proof.Machine.execEstopAssert s
  | .estopRelease => Sys2Proof.Machine.execEstopRelease s
  | .hpuReadyFall => Sys2Proof.Machine.execHpuReadyFall s
  | .hpuReadyRise => Sys2Proof.Machine.execHpuReadyRise s
  | .selFall => Sys2Proof.Machine.execSelFall s
  | .selRise sdi => Sys2Proof.Machine.execSelRise sdi s
  | .identify => Sys2Proof.Machine.execIdentify s
  | .read kind key => Sys2Proof.Machine.execRead kind key s
  | .write kind key items => Sys2Proof.Machine.execWrite kind key items s
  | .stepWrite kind key items => Sys2Proof.Machine.execStepWrite kind key items s
  | .seatLoadWrite group items => Sys2Proof.Machine.execSeatLoadWrite group items s
  | .zoneWrite group items => Sys2Proof.Machine.execZoneWrite group items s
  | .gaugeEnable gauge items => Sys2Proof.Machine.execGaugeEnable gauge items s
  | .gaugeDisable gauge items => Sys2Proof.Machine.execGaugeDisable gauge items s
  | .apodEnable pod items => Sys2Proof.Machine.execApodEnable pod items s
  | .apodDisable pod items => Sys2Proof.Machine.execApodDisable pod items s
  | .planWrite key items => Sys2Proof.Machine.execPlanWrite key items s
  | .pwmPeriodWrite key items => Sys2Proof.Machine.execPwmPeriodWrite key items s
  | .attentionMaskWrite key items => Sys2Proof.Machine.execAttentionMaskWrite key items s
  | .limitDefine slot items => Sys2Proof.Machine.execLimitDefine slot items s
  | .limitEdit slot items => Sys2Proof.Machine.execLimitEdit slot items s
  | .limitEnable slot items => Sys2Proof.Machine.execLimitEnable slot items s
  | .limitDisable slot items => Sys2Proof.Machine.execLimitDisable slot items s
  | .listChanged start => Sys2Proof.Machine.execListChanged start s
  | .restart => Sys2Proof.Machine.execRestart s
  | .restartComplete => Sys2Proof.Machine.execRestartComplete s
  | .groupRunResume group => Sys2Proof.Machine.execGroupRunResume group s
  | .groupRunFromStep group form => Sys2Proof.Machine.execGroupRunFromStep group form s
  | .groupPauseNow group => Sys2Proof.Machine.execGroupPauseNow group s
  | .groupPauseAtCycleEnd group => Sys2Proof.Machine.execGroupPauseAtCycleEnd group s
  | .groupUnload group => Sys2Proof.Machine.execGroupUnload group s
  | .groupRelease group => Sys2Proof.Machine.execGroupRelease group s
  | .ramStart ram => Sys2Proof.Machine.execRamStart ram s
  | .ramStop ram => Sys2Proof.Machine.execRamStop ram s
  | .ramClear ram => Sys2Proof.Machine.execRamClear ram s
  | .gaugeRound => Sys2Proof.Machine.execGaugeRound s
  | .gaugeArmArm => Sys2Proof.Machine.execGaugeArmArm s
  | .gaugeArmDisarm => Sys2Proof.Machine.execGaugeArmDisarm s
  | .gaugeZero sel => Sys2Proof.Machine.execGaugeZero sel s
  | .peakReset sel => Sys2Proof.Machine.execPeakReset sel s
  | .podCountersClear sel => Sys2Proof.Machine.execPodCountersClear sel s
  | .findCrack x => Sys2Proof.Machine.execFindCrack x s
  | .crackAck slot => Sys2Proof.Machine.execCrackAck slot s
  | .crackWidth slot width => Sys2Proof.Machine.execCrackWidth slot width s
  | .crackRetire slot => Sys2Proof.Machine.execCrackRetire slot s
  | .crackMerge a b => Sys2Proof.Machine.execCrackMerge a b s
  | .limitAck slot => Sys2Proof.Machine.execLimitAck slot s
  | .limitRetire slot => Sys2Proof.Machine.execLimitRetire slot s
  | .intervalTimerExpiry => Sys2Proof.Machine.execIntervalTimerExpiry s
  | .cyclicStart => Sys2Proof.Machine.execCyclicStart s
  | .delayExpiry => Sys2Proof.Machine.execDelayExpiry s
  | .latchBroadcastDone addrAck dataAck => Sys2Proof.Machine.execLatchBroadcastDone addrAck dataAck s
  | .latchWaitExpiry => Sys2Proof.Machine.execLatchWaitExpiry s
  | .podReadDone reply => Sys2Proof.Machine.execPodReadDone reply s
  | .stretchTimeout => Sys2Proof.Machine.execStretchTimeout s
  | .busClearDone result => Sys2Proof.Machine.execBusClearDone result s
  | .timeFrameDue => Sys2Proof.Machine.execTimeFrameDue s
  | .slotOpen dominant => Sys2Proof.Machine.execSlotOpen dominant s
  | .contention => Sys2Proof.Machine.execContention s
  | .replyTimeout falls => Sys2Proof.Machine.execReplyTimeout falls s
  | .replyFrameError => Sys2Proof.Machine.execReplyFrameError s
  | .replyReceived falls => Sys2Proof.Machine.execReplyReceived falls s
  | .quietWaitEnd => Sys2Proof.Machine.execQuietWaitEnd s
  | .requestPulse us => Sys2Proof.Machine.execRequestPulse us s
  | .lineStuck => Sys2Proof.Machine.execLineStuck s
  | .lineRecovered => Sys2Proof.Machine.execLineRecovered s
  | .timeFrameEnd => Sys2Proof.Machine.execTimeFrameEnd s
  | .heldFrameBegin => Sys2Proof.Machine.execHeldFrameBegin s

end Sys2Proof.Machine
end

