-- ==== Sys2Proof/Machine/Step.lean ====
section
/-! DEFINITION. One step: the command in front of the queue, or one clock cycle where none waits. -/

namespace Sys2Proof.Machine

/-- One step of the LF832: the command in front of the queue is taken, with the queue's rest left waiting; on an empty
queue one REFCLK cycle passes (DESIGN CHOICE, assumption log 1). -/
def step (s : State) : Host.Outcome State Fault Refusal :=
  match s.pending with
  | c :: rest => exec c { s with pending := rest }
  | [] => .next (idleCycle s)

/-- The state with the command that a table word spells in front of its queue. No row of the table gives bits, so no
word spells one (assumption log 4). -/
def State.withFetchWord (s : State) (nbits w : Nat) : State := putFrontWord nbits w s

end Sys2Proof.Machine
end

