-- ==== Sys2Proof/Machine/Outputs.lean ====
section
/-! DEFINITION. The pins of Table 11-8 that the LF832 drives, as functions of the state, and the bytes it sends on its
three links (R31 to R33, R60 to R62, R65, R68, R77, R94, R95, R166, R169, R173, R174, R182, R184, R187, R188). -/

namespace Sys2Proof.Machine

/-! ## Rams (R31 to R33) -/

/-- The valve-enable line of ram r: high exactly while the ram is ACTIVE, low in reset (R31, R33). -/
def valveEnable (r : Fin 8) (s : State) : Bool := !s.inReset && s.rams[r].state == .active

/-- The dump-valve line of ram r: energised closed exactly while the ram is ACTIVE (R31, R33). -/
def dumpLine (r : Fin 8) (s : State) : Bool := !s.inReset && s.rams[r].state == .active

/-- The pulse output of ram r: high from the period start until the counter reaches the active compare (R32, R33). -/
def pulseOutput (r : Fin 8) (s : State) : Bool :=
  !s.inReset && decide (pulseCounter s < s.rams[r].activeCompare)

/-! ## READY, ATTN and SDO -/

/-- READY: high in IDLE and ANSWER, and in RECEIVING, which keeps the level of the fall of SEL (Table 10-1, R174). -/
def ready (s : State) : Bool :=
  !s.inReset &&
    match s.port.phase with
    | .idle | .receiving | .answer => true
    | .starting | .working => false

/-- A record carries its change mark and its kind is enabled in attention_mask (R182). -/
def asksAttention (s : State) (r : RecordId) : Bool :=
  s.marks.get r && s.hall.attentionMask.getLsbD r.pair.1

/-- ATTN: high exactly when some record of an enabled kind carries its change mark (R174, R182). -/
def attn (s : State) : Bool := !s.inReset && markable.any (asksAttention s)

/-- Byte i of the present transaction on SDO; none while SDO is not driven (R166, R188). An overrun, and a transaction
begun in STARTING, sends 0xFF throughout (R173, R174); after the check byte comes 0x00 (R169). -/
def sdoByte (i : Nat) (s : State) : Option Byte :=
  if s.inReset || !s.port.selLow then none
  else if s.port.overrun then some 0xFF
  else some ((responseBytes (s.port.held.getD emptyResponse)).getD i 0)

/-- The level of SDO after n falling edges of SCK since the fall of SEL: the first bit from that fall on, each further one
from the next falling edge, the most significant bit of a byte first; none while SDO is not driven (R166). -/
def sdoBit (n : Nat) (s : State) : Option Bool := (sdoByte (n / 8) s).map fun b => b.getMsbD (n % 8)

/-! ## The gauge bus and the acoustic line (R187) -/

/-- The bytes of the latch broadcast: the general call and the latch command (R65). -/
def latchBytes : List Byte := [0x00, 0x5C]

/-- The address byte of a read of pod p: 0x30 + p shifted left, with the read bit (R60, R68). -/
def readAddress (p : Fin 12) : Byte := BitVec.ofNat 8 ((0x30 + p.val) * 2 + 1)

/-- The bytes the LF832 sends in the gauge bus transaction in progress; none where the bus is released or being
cleared. -/
def busBytes (s : State) : List Byte :=
  if s.inReset then []
  else
    match s.plan.roundState with
    | .latch => latchBytes
    | .read => (s.round.todo.head?.map fun p => [readAddress p]).getD []
    | .idle | .delay | .wait | .clear => []

/-- The level at which the LF832 leaves SDA in the acknowledge bit of byte i of a pod, should that bit come in this state:
low for the first 13 bytes and released for the last (R60, R68); released for any byte once a RESTART is ending the round,
since the byte in progress is not acknowledged (R77). -/
def podAck (i : Nat) (s : State) : Bool := i == 13 || s.round.restarting

/-- The levels at which the LF832 leaves SDA in the bits of the gauge bus transaction in progress, START and STOP left out,
true for released high, where the pods acknowledge what it sends (after an address byte that none acknowledges it sends
the STOP at once): the most significant bit of a byte first (R187); the acknowledge bit of a byte it sends is the
receiver's; it releases SDA for the 14 bytes of a pod and acknowledges them by podAck (R60, R65, R68, R77). Once a RESTART
is ending the round, these are the levels of the byte in progress, wherever it stands, and endedLevels are those sent. -/
def busLevels (s : State) : List Bool :=
  (busBytes s).flatMap (fun b => msbBits b ++ [true]) ++
    if s.plan.roundState = .read ∧ busBytes s ≠ [] then
      (List.range 14).flatMap fun i => List.replicate 8 true ++ [podAck i s]
    else []

/-- The levels on SDA, from the START to the STOP, of a transaction that a RESTART ends while its byte n is in progress
(byte 0 is the first the LF832 sends): the bytes before it went as in any transaction, byte n is finished, and nothing
after it is sent but the STOP (R77). -/
def endedLevels (n : Nat) (s : State) : List Bool :=
  (busLevels { s with round := { s.round with restarting := false } }).take (9 * n) ++ ((busLevels s).drop (9 * n)).take 9

/-- The clock bits of the bus activity in progress, START and STOP left out: nine for each byte of a transaction (R60), the
pulses of a bus clear, at most nine (R62), and none in reset, where both lines are released (R188), or outside a
transaction and a clear. -/
def clockBits (s : State) : Nat :=
  if s.inReset then 0
  else
    match s.plan.roundState with
    | .clear => 9
    | .idle | .delay | .wait | .latch | .read => (busLevels s).length

/-- The two halves of a clock bit of the gauge bus (R61). -/
inductive ClockHalf where
  | low | high
  deriving DecidableEq, Repr

/-- The LF832 leaves SCL released in one half of clock bit n of the bus activity in progress: in the high half of every bit
and pulse (R61, R62), and throughout after the last, where nothing is clocked, and in reset (R60, R188). In the low half it
drives SCL low (DEDUCED, assumption log 31). -/
def sclReleased (n : Nat) (half : ClockHalf) (s : State) : Bool := half == .high || decide (clockBits s ≤ n)

/-- The LF832 leaves SDA released in clock bit n of the bus activity in progress: by busLevels in a transaction (R60), in
every pulse of a bus clear (R62), and in reset and where nothing is sent (R60, R188). -/
def sdaReleased (n : Nat) (s : State) : Bool := (busLevels s).getD n true

/-- The byte of a POLL of pod p (R94). -/
def pollByte (p : Fin 16) : Byte := BitVec.ofNat 8 (0xA0 + p.val)

/-- The bytes of a TIME frame begun at a clock (R95). -/
def timeBytes (began : Nat) : List Byte := 0xB0 :: beBytes 4 (began / 40 % 2 ^ 32)

/-- The bytes of the frame the LF832 has begun on the acoustic line; none where it sends none. -/
def lineBytes (s : State) : List Byte :=
  if s.inReset then []
  else
    match s.line.frame with
    | .poll p _ _ => [pollByte p]
    | .time began => timeBytes began
    | .idle | .held _ | .quiet _ _ | .settling _ => []

/-- The clock at the beginning of the frame in flight; the present clock where there is none. -/
def frameBegan (s : State) : Nat :=
  match s.line.frame with
  | .poll _ began _ | .time began => began
  | .idle | .held _ | .quiet _ _ | .settling _ => s.clk

/-- ALINE: the LF832 drives the line dominant, for the 4 µs of each 0 bit of the bytes it sends one after another; it
leaves the line recessive otherwise (R91). -/
def alineDominant (s : State) : Bool :=
  let bit := (s.clk - frameBegan s) / us 4
  ((lineBytes s)[bit / 10]?).any fun b => !(lineBits b).getLsbD (bit % 10)

end Sys2Proof.Machine
end

