-- ==== Sys2Proof/Safety.lean ====
section
/-! DEFINITION. The terms the claims are stated in: a command that is in work or whose event can occur, an answered
request, and the laws of the manual as predicates on a state. -/

namespace Sys2Proof.Machine

/-! ## Commands and answers -/

/-- The request of command c is in work at a part out of reset, and not taken yet. -/
abbrev Due (c : Instr) (s : State) : Prop := s.inReset = false ∧ InWork c s

/-- The port of s after its request in work has been answered (R172). -/
def answered (r : Response) (s : State) : Port :=
  { s.port with phase := .answer, held := some r, work := none }

/-- A key or selector byte. -/
abbrev byte (n : Nat) : Byte := BitVec.ofNat 8 n

/-- Command c is refused with a status and no payload, and nothing else changes (R175). -/
abbrev Refuses (c : Instr) (st : Status) (s : State) : Prop :=
  exec c s = .next { s with port := answered (refuse st) s }

/-- Command c is answered OK with no payload, and nothing else changes. -/
abbrev Idles (c : Instr) (s : State) : Prop := exec c s = .next { s with port := answered ok s }

/-- A WRITE c of record r is in work, and its item run passes the pair checks of R178 as these pairs. -/
abbrev Passes (c : Instr) (r : RecordId) (items : List Byte) (pairs : List (Nat × Int)) (s : State) : Prop :=
  Due c s ∧ items ≠ [] ∧ checkPairs s r items.length [] items = .good pairs

/-- One pair of a WRITE passes steps 2 to 4 of R178, after the pairs already seen. -/
abbrev PairPasses (s : State) (r : RecordId) (seen : List (Nat × Int)) (f : Nat) (v : Int) : Prop :=
  accessOf r.kind f ≠ .readOnly ∧ (∀ p ∈ seen, p.1 ≠ f) ∧ (accessOf r.kind f).admits v = true ∧
    letsWrite s r f = true

/-- One group advance after another on an unchanging program, k of them (R5). -/
def advances (st next : StepRec) : Nat → Group → Group
  | 0, x => x
  | k + 1, x => advances st next k (x.advance st next).1

/-- The WRITE requests of one record, under each of the names the table gives them (R178). -/
abbrev IsHallWrite (c : Instr) (items : List Byte) : Prop :=
  c = .write 0 0 items ∨ c = .pwmPeriodWrite 0 items ∨ c = .attentionMaskWrite 0 items

/-- A WRITE of GROUP g. -/
abbrev IsGroupWrite (c : Instr) (g : Fin 4) (items : List Byte) : Prop :=
  c = .write 2 (byte g.val) items ∨ c = .stepWrite 2 (byte g.val) items ∨
    c = .seatLoadWrite (byte g.val) items ∨ c = .zoneWrite (byte g.val) items

/-- A WRITE of STEP i. -/
abbrev IsStepWrite (c : Instr) (i : Fin 64) (items : List Byte) : Prop :=
  c = .write 3 (byte i.val) items ∨ c = .stepWrite 3 (byte i.val) items

/-- A WRITE of PLAN. -/
abbrev IsPlanWrite (c : Instr) (items : List Byte) : Prop := c = .write 4 0 items ∨ c = .planWrite 0 items

/-- A WRITE of GAUGE k. -/
abbrev IsGaugeWrite (c : Instr) (k : Fin 48) (items : List Byte) : Prop :=
  c = .write 5 (byte k.val) items ∨ c = .gaugeEnable (byte k.val) items ∨ c = .gaugeDisable (byte k.val) items

/-- A WRITE of APOD p. -/
abbrev IsAPodWrite (c : Instr) (p : Fin 16) (items : List Byte) : Prop :=
  c = .write 7 (byte p.val) items ∨ c = .apodEnable (byte p.val) items ∨ c = .apodDisable (byte p.val) items

/-- A WRITE of LIMIT l. -/
abbrev IsLimitWrite (c : Instr) (l : Fin 24) (items : List Byte) : Prop :=
  c = .write 10 (byte l.val) items ∨ c = .limitDefine (byte l.val) items ∨ c = .limitEdit (byte l.val) items ∨
    c = .limitEnable (byte l.val) items ∨ c = .limitDisable (byte l.val) items

/-! ## Rams -/

/-- A ram that is not ACTIVE: its valve command is 0, its loop at rest and mid staged (R30, R31, R38). -/
def Ram.Resting (mid : Nat) (x : Ram) : Prop :=
  x.u = 0 ∧ x.setpoint = 0 ∧ x.trackError = 0 ∧ x.integrator = 0 ∧ x.clamped = false ∧
    x.slewLimited = false ∧ x.saturated = false ∧ x.satCount = 0 ∧ x.coilCount = 0 ∧
    x.shadowCompare = mid

/-- Every valve command lies within ±10000 (R57), every integrator within full valve opening (R56), and a ram that is
not ACTIVE is at rest (R31). -/
def ValveLaw (s : State) : Prop :=
  ∀ r : Fin 8,
    (-10000 ≤ s.rams[r].u ∧ s.rams[r].u ≤ 10000) ∧
      (-integratorTop ≤ s.rams[r].integrator ∧ s.rams[r].integrator ≤ integratorTop) ∧
      (s.rams[r].state ≠ .active → s.rams[r].Resting (midCompare s))

/-- No compare, staged or active, exceeds the pulse period (R32, R58). -/
def CompareLaw (s : State) : Prop :=
  ∀ r : Fin 8, s.rams[r].shadowCompare ≤ s.hall.pwmPeriod ∧ s.rams[r].activeCompare ≤ s.hall.pwmPeriod

/-- The relations of R29 hold of every RAM record, and an ACTIVE ram is configured with its setpoint within its bounds
(R53). -/
def BoundsLaw (s : State) : Prop :=
  ∀ r : Fin 8,
    (s.rams[r].fsForce ≠ 0 →
      -(s.rams[r].fsForce : Int) ≤ s.rams[r].fMin ∧ s.rams[r].fMin < s.rams[r].fMax ∧
        s.rams[r].fMax ≤ s.rams[r].fsForce ∧ s.rams[r].slewMax ≤ s.rams[r].fsForce) ∧
      (-(s.rams[r].fsStroke : Int) ≤ s.rams[r].strokeMin ∧ s.rams[r].strokeMin < s.rams[r].strokeMax ∧
        s.rams[r].strokeMax ≤ s.rams[r].fsStroke) ∧
      (s.rams[r].state = .active →
        s.rams[r].fsForce ≠ 0 ∧ s.rams[r].fMin ≤ s.rams[r].setpoint ∧
          s.rams[r].setpoint ≤ s.rams[r].fMax)

/-- trip_cause is NONE exactly while the ram is not TRIPPED (R35, R37, R38). -/
def CauseLaw (s : State) : Prop :=
  ∀ r : Fin 8, s.rams[r].tripCause = .none ↔ s.rams[r].state ≠ .tripped

/-- What a trip of every ACTIVE ram by one cause leaves (R22, R38, R42): t is s after it, but for the HALL record. -/
def AllTripped (cause : TripCause) (s t : State) : Prop :=
  (∀ r : Fin 8,
    t.rams[r] =
      if s.rams[r].state = .active then
        { s.rams[r] with
          state := .tripped, tripCause := cause, setpoint := 0, u := 0, trackError := 0, clamped := false,
          slewLimited := false, saturated := false, satCount := 0, coilCount := 0, integrator := 0,
          shadowCompare := (roundDiv s.hall.pwmPeriod 2).toNat }
      else s.rams[r]) ∧
    (∀ g : Fin 4,
      t.groups[g] =
        if s.groups[g].state ≠ .idle ∧ ∃ r : Fin 8, s.rams[r].group = g ∧ s.rams[r].state = .active then
          { s.groups[g] with
            state := .idle, command := s.groups[g].seatLoad * 1024, phase := 0, cycling := .leadIn,
            stepEntered := false, pauseCause := .none }
        else s.groups[g]) ∧
    (∀ r : Fin 8, t.marks.ram[r] = (s.marks.ram[r] || decide (s.rams[r].state = .active))) ∧
    ∀ g : Fin 4,
      t.marks.group[g] =
        (s.marks.group[g] ||
          decide (s.groups[g].state ≠ .idle ∧
            ∃ r : Fin 8, s.rams[r].group = g ∧ s.rams[r].state = .active))

/-! ## Groups -/

/-- No group with a TRIPPED ram is in RUN, ENDING or PAUSE (R22). -/
def TrippedLaw (s : State) : Prop :=
  ∀ g : Fin 4, anyTripped g s = true → s.groups[g].state = .idle ∨ s.groups[g].state = .unload

/-- A group out of IDLE has an ACTIVE ram (R14, R18, R22, R36). -/
def LoadedLaw (s : State) : Prop := ∀ g : Fin 4, s.groups[g].state ≠ .idle → anyActive g s = true

/-- The program of a group: its cursor within its step list, no EMPTY step below step_count out of IDLE (R4), a step
entered throughout RUN and ENDING, and the fields of IDLE (R18, R19). -/
def ProgramLaw (s : State) : Prop :=
  ∀ g : Fin 4,
    s.groups[g].cursor ≤ s.groups[g].stepCount ∧ s.groups[g].stepCount ≤ 16 ∧
      (s.groups[g].stepEntered = true → s.groups[g].cursor < s.groups[g].stepCount) ∧
      (s.groups[g].state = .run ∨ s.groups[g].state = .ending → s.groups[g].stepEntered = true) ∧
      (s.groups[g].state ≠ .idle → noEmptyBelow g s.groups[g].stepCount s = true) ∧
      (s.groups[g].state = .idle →
        s.groups[g].command = s.groups[g].seatLoad * 1024 ∧ s.groups[g].stepEntered = false ∧
          s.groups[g].pauseCause = .none)

/-! ## Limits and protection -/

/-- A LIMIT record: DISABLED exactly while not enabled; its counter below its persistence while PENDING and 0 otherwise
(R156); its relations kept (R147). -/
def LimitLaw (s : State) : Prop :=
  ∀ (i : Fin 24) (l : Limit), s.limits[i] = some l →
    (l.enabled = false ↔ l.state = .disabled) ∧ (l.state = .pending → l.counter < l.persistence) ∧
      (l.state ≠ .pending → l.counter = 0) ∧ l.related = true

/-- Severity and derate factor of each group are those of the engaged limits that target it (R20). -/
def SeverityLaw (s : State) : Prop :=
  ∀ g : Fin 4,
    s.groups[g].severity = severityOf (engagedOn g s) ∧ s.groups[g].derate = derateOf (engagedOn g s)

/-- No group is in RUN at severity 2 or more, and none in RUN or ENDING at severity 3 or more (R21). -/
def EngagedLaw (s : State) : Prop :=
  ∀ g : Fin 4,
    (2 ≤ s.groups[g].severity → s.groups[g].state ≠ .run) ∧
      (3 ≤ s.groups[g].severity → s.groups[g].state ≠ .run ∧ s.groups[g].state ≠ .ending)

/-- The state with limit slot i EMPTY. -/
def withoutLimit (i : Fin 24) (s : State) : State := { s with limits := s.limits.set i none }

/-- Limit l in slot i is the only limit defined. -/
abbrev OnlyLimit (s : State) (i : Fin 24) (l : Limit) : Prop :=
  s.limits[i] = some l ∧ ∀ j : Fin 24, j ≠ i → s.limits[j] = none

/-- An operation does what it does where slot i is EMPTY, and the limit in slot i is evaluated on what that leaves. -/
def Evaluates (f : State → State) (i : Fin 24) (s : State) : Prop :=
  f s = evalLimit i { f (withoutLimit i s) with limits := s.limits }

/-- A command does what it does where slot i is EMPTY, and the limit in slot i is evaluated on what that leaves. -/
def ExecEvaluates (c : Instr) (i : Fin 24) (s : State) : Prop :=
  ∃ u, exec c (withoutLimit i s) = .next u ∧ exec c s = .next (evalLimit i { u with limits := s.limits })

/-- No limit on the crack records of group g's zone is defined. -/
abbrev NoCrackLimit (s : State) (g : Fin 4) : Prop :=
  ∀ (i : Fin 24) (l : Limit), s.limits[i] = some l → l.source = .crackCount ∨ l.source = .crackWidth →
    l.sourceKey ≠ g.val

/-- No limit on the strain of a gauge of pod p is defined. -/
abbrev NoStrainLimit (s : State) (p : Fin 12) : Prop :=
  ∀ (i : Fin 24) (l : Limit), s.limits[i] = some l → l.source = .gaugeStrain → l.sourceKey / 4 ≠ p.val

/-- No limit has acted from s to t: rams, groups and limits are as before, and so are their marks. -/
abbrev LimitsRest (s t : State) : Prop :=
  t.rams = s.rams ∧ t.groups = s.groups ∧ t.limits = s.limits ∧ t.marks.ram = s.marks.ram ∧
    t.marks.group = s.marks.group ∧ t.marks.limit = s.marks.limit

/-! ## Gauges and pods -/

/-- A GAUGE record: what is present in which state (R78, R79, R82), and the peaks about the strain (R81). -/
def GaugeLaw (s : State) : Prop :=
  ∀ k : Fin 48,
    (s.gauges[k].enabled = false ↔ s.gauges[k].state = .disabled) ∧
      (s.gauges[k].enabled = false →
        s.gauges[k].count = none ∧ s.gauges[k].strain = none ∧ s.gauges[k].zeroPending = false) ∧
      (s.gauges[k].strain.isSome = true → s.gauges[k].count.isSome = true) ∧
      (s.gauges[k].state = .ok → s.gauges[k].strain.isSome = true) ∧
      ∀ e, s.gauges[k].strain = some e → e.peakMin ≤ e.now ∧ e.now ≤ e.peakMax

/-- An APOD record: DISABLED exactly while not enabled, with no slot hit then (R106, R121); LOST exactly at eight
failed polls or more (R102); no position shared by two enabled pods (R106). -/
def PodLaw (s : State) : Prop :=
  (∀ p : Fin 16,
    (s.apods[p].enabled = false ↔ s.apods[p].state = .disabled) ∧
      (s.apods[p].enabled = false → s.apods[p].slot = none ∧ s.apods[p].consecutiveFails = 0) ∧
      (s.apods[p].state = .lost ↔ 8 ≤ s.apods[p].consecutiveFails)) ∧
    ∀ p q : Fin 16, p ≠ q → s.apods[p].enabled = true → s.apods[q].enabled = true →
      s.apods[p].positionMm ≠ s.apods[q].positionMm

/-- Pod q is the enabled pod of lowest id above a pod, or of lowest id where no pod is given (R98). -/
def LowestEnabled (s : State) (above : Option (Fin 16)) (q : Fin 16) : Prop :=
  s.apods[q].enabled = true ∧ (∀ l, above = some l → l < q) ∧
    ∀ p : Fin 16, s.apods[p].enabled = true → (∀ l, above = some l → l < p) → q ≤ p

/-- No pod above a pod, or none at all, is enabled (R98). -/
def NoneEnabled (s : State) (above : Option (Fin 16)) : Prop :=
  ∀ p : Fin 16, s.apods[p].enabled = true → ¬∀ l, above = some l → l < p

/-- Pod q is the lower neighbour of pod p (R114). -/
def LowerNeighbour (s : State) (p q : Fin 16) : Prop :=
  s.apods[q].enabled = true ∧ s.apods[q].positionMm < s.apods[p].positionMm ∧
    ∀ r : Fin 16, s.apods[r].enabled = true → s.apods[r].positionMm < s.apods[p].positionMm →
      s.apods[r].positionMm ≤ s.apods[q].positionMm

/-- Pod q is the upper neighbour of pod p (R114). -/
def UpperNeighbour (s : State) (p q : Fin 16) : Prop :=
  s.apods[q].enabled = true ∧ s.apods[p].positionMm < s.apods[q].positionMm ∧
    ∀ r : Fin 16, s.apods[r].enabled = true → s.apods[p].positionMm < s.apods[r].positionMm →
      s.apods[q].positionMm ≤ s.apods[r].positionMm

/-- A hit of this timestamp is too old: its age, taken as a signed 32-bit difference, exceeds pair_hold_us (R113). -/
def TooOld (s : State) (time : Word) : Prop := (s.crackset.pairHoldUs : Int) < (hallTime s - time).toInt

/-- The hit accounts of a pod while none of its counts has saturated (R111). -/
def HitLaw (s : State) : Prop :=
  ∀ p : Fin 16,
    s.apods[p].received < max32 → s.apods[p].belowAmp < max32 → s.apods[p].accepted < max32 →
      s.apods[p].paired < max32 → s.apods[p].unpaired < max32 →
      s.apods[p].accepted = s.apods[p].paired + s.apods[p].unpaired +
          (if s.apods[p].slot.isSome then 1 else 0) ∧
        s.apods[p].received = s.apods[p].accepted + s.apods[p].belowAmp

/-- A live crack record (R128). -/
def CrackLaw (s : State) : Prop :=
  ∀ (c : Fin 32) (y : Crack), s.cracks[c] = some y →
    1 ≤ y.events ∧ y.xLo ≤ y.xMm ∧ y.xMm ≤ y.xHi ∧
      (y.confirmCycle.isSome = true ↔ y.state ≠ .suspect)

/-- The ref group of every live crack record is the group of lowest index whose zone contains it (R126). -/
def RefLaw (s : State) : Prop :=
  ∀ (c : Fin 32) (y : Crack), s.cracks[c] = some y → y.refGroup = zoneOf y.xMm s

/-! ## The round and the port -/

/-- A round's accounts (R63, R69 to R71): its list ascends, so no pod stands in it twice; before its reads no pod has been
handed over; from its first read on, the pods still to come are those after the pods handed over, the pod being read or
timed out first. A round that a RESTART is ending keeps none (R77). -/
def RoundLaw (s : State) : Prop :=
  s.plan.roundState ≠ .idle → s.round.restarting = false →
    s.round.pods.Pairwise (· < ·) ∧ (s.plan.roundState = .wait → s.round.pods ≠ []) ∧
      if s.plan.roundState = .read then
        s.round.todo ≠ [] ∧ s.round.todo = s.round.pods.drop (s.round.podsRead + s.round.podsMissed)
      else if s.plan.roundState = .clear ∧ s.round.clearFor = .pod then
        s.round.todo ≠ [] ∧ 1 ≤ s.round.podsMissed ∧
          s.round.todo = s.round.pods.drop (s.round.podsRead + s.round.podsMissed - 1)
      else s.round.todo = s.round.pods ∧ s.round.podsRead = 0 ∧ s.round.podsMissed = 0

/-- The port (Table 10-1): a request in work exactly in WORKING; a response held in ANSWER; a transaction of its own in
RECEIVING; a RESTART that the blocks have taken in work until it completes (R180). -/
def PortLaw (s : State) : Prop :=
  (s.port.phase = .working ↔ s.port.work.isSome = true) ∧
    (s.port.phase = .answer → s.port.held.isSome = true) ∧
    (s.port.phase = .starting ∨ s.port.phase = .idle ∨ s.port.phase = .working → s.port.held = none) ∧
    (s.port.phase = .receiving ↔ s.port.selLow = true ∧ s.port.overrun = false) ∧
    (s.port.restartTaken = true → s.port.phase = .working ∧ s.port.work = requestOf .restart)

end Sys2Proof.Machine
end

