-- ==== Sys2Proof/WellFormed.lean ====
section
/-! DEFINITION. Which terms of Instr stand for an event or a request the manual knows: the operands that a row's
own definition rules out are refused here. A key, selector or item run that a request can carry and that its owner
refuses (BAD_KEY, BAD_VALUE) is well-formed: the refusal is the request's meaning. -/

namespace Sys2Proof

/-- A command names an event or request of its row (the row's summary and rule say which). -/
def WellFormed : Instr → Bool
  | .stepWrite kind _ items => kind == 3 || (kind == 2 && namesField .group 2 items)
  | .seatLoadWrite _ items => namesField .group 6 items
  | .zoneWrite _ items => namesField .group 13 items || namesField .group 14 items
  | .gaugeEnable _ items => carriesValue .gauge 1 1 items
  | .gaugeDisable _ items => carriesValue .gauge 1 0 items
  | .apodEnable _ items => carriesValue .apod 1 1 items
  | .apodDisable _ items => carriesValue .apod 1 0 items
  | .pwmPeriodWrite _ items => namesField .hall 3 items
  | .attentionMaskWrite _ items => namesField .hall 8 items
  | .limitEdit _ items => (splitItems .limit items.length items).any fun p => p.1 != 2
  | .limitEnable _ items => carriesValue .limit 2 1 items
  | .limitDisable _ items => carriesValue .limit 2 0 items
  | .groupRunFromStep _ form => form != 0x80
  | .latchBroadcastDone addrAck dataAck => addrAck || !dataAck
  | .replyTimeout falls =>
    match receive falls with
    | .waiting _ => true
    | .failed _ | .complete _ => false
  | .replyReceived falls =>
    match receive falls with
    | .complete _ | .failed _ => true
    | .waiting _ => false
  | .requestPulse us => decide (100 ≤ us) && decide (us < 5000)
  | .resetAssert | .powerOnReset _ _ | .controlTick | .sampleSet _ | .pulsePeriodStart
  | .estopAssert | .estopRelease | .hpuReadyFall | .hpuReadyRise | .selFall | .selRise _
  | .identify | .read _ _ | .write _ _ _ | .planWrite _ _ | .limitDefine _ _
  | .listChanged _ | .restart | .restartComplete | .groupRunResume _ | .groupPauseNow _
  | .groupPauseAtCycleEnd _ | .groupUnload _ | .groupRelease _ | .ramStart _ | .ramStop _
  | .ramClear _ | .gaugeRound | .gaugeArmArm | .gaugeArmDisarm | .gaugeZero _ | .peakReset _
  | .podCountersClear _ | .findCrack _ | .crackAck _ | .crackWidth _ _ | .crackRetire _
  | .crackMerge _ _ | .limitAck _ | .limitRetire _ | .intervalTimerExpiry | .cyclicStart
  | .delayExpiry | .latchWaitExpiry | .podReadDone _ | .stretchTimeout | .busClearDone _
  | .timeFrameDue | .slotOpen _ | .contention | .replyFrameError | .quietWaitEnd | .lineStuck | .lineRecovered
  | .timeFrameEnd | .heldFrameBegin => true

end Sys2Proof
end

