-- ==== Sys2Proof/Certificates/Slice0/Obligations.lean ====
section
/-! DEFINITION. The statements for the provers, one definition each, in the order of the manual's chapters. -/

section

open Sys2Proof Sys2Proof.Machine

/-! ## The machine -/

/-- The queue: the command in front is run on the state with the queue's rest. The model's choice (assumption logs 1,
4 and 10), no rule of the manual: on an empty queue one cycle of the 40 MHz clock passes, in which the port refuses a
request in work that it does not hand to an owner, and nothing else happens; none passes while RST is low; no table
word spells a command. -/
def Obligations.StepRunsTheFrontCommand : Prop :=
  (∀ (c : Instr) (rest : List Instr) (s : State),
     step { s with pending := c :: rest } = exec c { s with pending := rest }) ∧
    (∀ s : State,
       (s.pending = [] → s.inReset = false →
         (s.port.phase ≠ .working ∨ s.port.work = none → step s = .next { s with clk := s.clk + 1 }) ∧
           ∀ q, s.port.phase = .working → s.port.work = some q →
             (∀ c, decodeRequest q = .command c → step s = .next { s with clk := s.clk + 1 }) ∧
               ∀ st, decodeRequest q = .refused st →
                 step s = .next { s with clk := s.clk + 1, port := answered (refuse st) s }) ∧
         (s.pending = [] → s.inReset = true → step s = .next s) ∧
         ∀ nbits w : Nat, s.withFetchWord nbits w = s)

/-- R33, R174, R188: with RST low every output is low or released, and (the model's reading, assumption log 2) no
command but the release of reset changes anything. -/
def Obligations.ResetHoldsEveryOutputLow : Prop :=
  ∀ s : State, ∃ t, exec .resetAssert s = .next t ∧ t = { s with inReset := true } ∧
    (∀ r, valveEnable r t = false ∧ dumpLine r t = false ∧ pulseOutput r t = false) ∧
    ready t = false ∧ attn t = false ∧ (∀ i, sdoByte i t = none) ∧ busBytes t = [] ∧
    (∀ n half, sclReleased n half t = true ∧ sdaReleased n t = true) ∧ lineBytes t = [] ∧
    alineDominant t = false ∧
    ∀ c : Instr, (∀ hpu estop, c ≠ .powerOnReset hpu estop) → exec c t = .next t

/-- R24, R45, R77, R90, R109, R121, R144, R165, R174, R183: the power-on values of every chapter. That POWER_ON_RESET
acts in every state and that the commands still waiting keep their places is the model's choice (assumption log 18). -/
def Obligations.PowerOnResetSetsEveryRecord : Prop :=
  ∀ (hpu : HpuLevel) (estop : EstopLevel) (s : State),
    ∃ t, exec (.powerOnReset hpu estop) s = .next t ∧ t.pending = s.pending ∧ t.inReset = false ∧
      hallTime t = 0 ∧ t.sampled = false ∧ t.scanEnds = none ∧ pulseCounter t = 0 ∧
      t.hall =
        { scanDelayUs := 10, settleUs := 6, pwmPeriod := 2500, busSpeed := .kbit100, stretchLimitUs := 2000,
          latchWaitUs := 1000, staleLimit := 3, attentionMask := 0x7FF, overrunCount := 0, cutCount := 0,
          hpuReady := hpu, estop := estop, aux := Vector.replicate 4 0 } ∧
      (∀ r : Fin 8,
        t.rams[r] =
          { state := .off, tripCause := .none, group := 0, share := 0, fsForce := 0, loadZero := 0, fMin := 0,
            fMax := 0, slewMax := 1000, fsStroke := 250000, strokeZero := 0, strokeMin := -250000,
            strokeMax := 250000, kp := 0, ki := 0, satPeriods := 4000, coilFsMa := 1000, coilPeriods := 20,
            force := 0, stroke := 0, coilMa := 0, setpoint := 0, u := 0, trackError := 0, clamped := false,
            slewLimited := false, saturated := false, satCount := 0, coilCount := 0, integrator := 0,
            loadCount := t.rams[r].loadCount, shadowCompare := 1250,
            activeCompare := t.rams[r].activeCompare } ∧
          valveEnable r t = false ∧ dumpLine r t = false) ∧
      (∀ g : Fin 4,
        t.groups[g] =
          { state := .idle, stepCount := 0, cursor := 0, stepEntered := false, command := 0, seatLoad := 0,
            transferRate := 10000, dwellLeft := 0, cyclesLeft := 0, phase := 0,
            phaseInc := t.groups[g].phaseInc, cycling := .leadIn, lifeCycles := 0, zoneLo := 0, zoneHi := 0,
            pauseCause := .none, severity := 0, derate := 1000 }) ∧
      (∀ i : Fin 64,
        t.steps[i] =
          { kind := .empty, target := 0, rate := 10000, durationMs := 1000, mean := 0, amp := 0,
            freqMhz := 1000, count := 1 }) ∧
      t.plan =
        { source := .supervisor, trigGroup := 0, delayPeriods := 0, intervalMs := 1000, mode := .single,
          armed := false, roundState := .idle, busState := .ok, missedTriggers := 0, roundNumber := 0,
          trigger := .none, latchTime := 0, trigCommand := 0, trigLifeCycles := 0, latchAnswered := false,
          aborted := false, podsRead := 0, podsMissed := 0 } ∧
      t.round.restFlag = false ∧ t.round.intervalCount = 2000 ∧
      (∀ k : Fin 48,
        t.gauges[k] =
          { enabled := false, gfMilli := 2000, bridge := .quarter, zero := 0, zeroPending := false,
            count := none, strain := none, state := .disabled }) ∧
      (∀ p : Fin 12,
        podInUse p t = false ∧
          t.gpods[p] =
            { consecutiveMisses := 0, reads := 0, misses := 0, badChecks := 0, stretchTimeouts := 0,
              lastMiss := .none }) ∧
      (∀ p : Fin 16,
        t.apods[p] =
          { enabled := false, positionMm := 0, state := .disabled, consecutiveFails := 0, lastOutcome := .none,
            frameErrors := 0, podOverflows := 0, received := 0, belowAmp := 0, accepted := 0, paired := 0,
            unpaired := 0, slot := none }) ∧
      t.line.rr = 15 ∧ t.line.sweep = .off ∧ t.line.timeDue = false ∧ t.line.nextTime = 100000 ∧
      t.line.nextSlot = 0 ∧ alineDominant t = false ∧ busBytes t = [] ∧ (∀ n half, sclReleased n half t = true ∧ sdaReleased n t = true) ∧
      t.crackset =
        { pollIntervalUs := 1000, lineState := .ok, contentionCount := 0, minAmpDb := 45, pairHoldUs := 20000,
          waveSpeed := 4000, guardUs := 50, radiusMm := 150, confirmCount := 8, windowCycles := 1000,
          activeEvents := 20, quietWindows := 5, suspectWindows := 3, eventsLost := 0 } ∧
      (∀ c : Fin 32, t.cracks[c] = none) ∧ (∀ l : Fin 24, t.limits[l] = none) ∧ markedRecords t = [] ∧
      t.port.phase = .starting ∧ t.port.held = none ∧ t.port.work = none ∧ ready t = false ∧ attn t = false

/-! ## Time base, scanner, pulse outputs, hall inputs -/

/-- R25, R26, R64, R73, R74, R174: a control tick comes at the next multiple of 500 µs, starts a scan whose end its
own settings give, in place of one still in progress (assumption log 9), counts for the round plan, and takes the port
out of STARTING. What the counts bring about is left to the commands INTERVAL_TIMER_EXPIRY, DELAY_EXPIRY and
CYCLIC_START (DEDUCED, log 11): a count stays at 0 and cyclicDue is set for them. R31, R32: a pulse period starts one
period after the last, and every channel takes its shadow compare. R31, R32, R33: the three outputs of a ram follow
its state and its active compare. -/
def Obligations.TicksAndPeriodsKeepTime : Prop :=
  (∀ s : State, s.inReset = false →
     exec .controlTick s =
       .next
         { s with
           clk := max s.clk (20000 * (s.ticks + 1))
           ticks := s.ticks + 1
           scanEnds :=
             some (20000 * (s.ticks + 1) + 40 * (s.hall.scanDelayUs + 28 * (s.hall.settleUs + 3)))
           round :=
             { s.round with
               intervalCount :=
                 if s.plan.source = .timed then s.round.intervalCount - 1 else s.round.intervalCount
               delayCount :=
                 if s.plan.roundState = .delay then s.round.delayCount - 1 else s.round.delayCount
               restFlag := if s.plan.roundState = .idle then false else s.round.restFlag
               cyclicDue :=
                 decide (s.plan.roundState = .idle ∧ s.round.restFlag = false ∧ s.plan.mode = .cyclic ∧
                   s.plan.armed = true) }
           port :=
             { s.port with phase := if s.port.phase = .starting then .idle else s.port.phase } }) ∧
    (∀ s : State, s.inReset = false →
       ∃ t, exec .pulsePeriodStart s = .next t ∧
         t = { s with
               clk := max s.clk (s.pulseStart + s.hall.pwmPeriod),
               pulseStart := s.pulseStart + s.hall.pwmPeriod, rams := t.rams } ∧
         (∀ r : Fin 8, t.rams[r] = { s.rams[r] with activeCompare := s.rams[r].shadowCompare }) ∧
         (s.clk ≤ s.pulseStart + s.hall.pwmPeriod →
           pulseCounter t = 0 ∧
             ∀ r : Fin 8, pulseOutput r t = true ↔ 0 < s.rams[r].shadowCompare)) ∧
    (∀ (s : State) (r : Fin 8),
       (valveEnable r s = true ↔ s.inReset = false ∧ s.rams[r].state = .active) ∧
         dumpLine r s = valveEnable r s ∧
         (0 < s.hall.pwmPeriod → pulseCounter s < s.hall.pwmPeriod) ∧
         (s.inReset = false → s.rams[r].activeCompare = 0 → pulseOutput r s = false) ∧
         (s.inReset = false → 0 < s.hall.pwmPeriod → s.rams[r].activeCompare = s.hall.pwmPeriod →
           pulseOutput r s = true))

/-- R27, R30, R48: a sample set converts the three counts of every ram in every state, hands the aux counts to HALL,
changes nothing else of a ram that was not ACTIVE, and touches only what the rams, groups, limits, round plan and
crack table hold. The clock passes the scan's end only where a trigger starts a round whose latch waits for the bus
(R60; its length in assumption log 25). -/
def Obligations.SampleSetConvertsEveryInput : Prop :=
  ∀ (counts : Vector (BitVec 16) 28) (s : State) (e : Nat), s.inReset = false → s.scanEnds = some e →
    ∃ t, exec (.sampleSet counts) s = .next t ∧
      t = { s with
            clk := t.clk, scanEnds := none, sampled := true,
            hall :=
              { s.hall with
                aux := #v[(counts[24]).toInt, (counts[25]).toInt, (counts[26]).toInt, (counts[27]).toInt] },
            rams := t.rams, groups := t.groups, limits := t.limits, plan := t.plan, round := t.round,
            cracks := t.cracks,
            marks :=
              { s.marks with
                ram := t.marks.ram, group := t.marks.group, plan := t.marks.plan,
                crack := t.marks.crack, limit := t.marks.limit } } ∧
      (t.clk = max s.clk e ∨
        (s.plan.roundState = .idle ∧ t.plan.roundState = .latch ∧
          t.clk = max (max s.clk e) s.round.busFree)) ∧
      ∀ r : Fin 8,
        let x := s.rams[r]
        t.rams[r].force = roundDiv (((counts[3 * r.val]).toInt - x.loadZero) * x.fsForce) 32767 ∧
          t.rams[r].stroke = roundDiv (((counts[3 * r.val + 1]).toInt - x.strokeZero) * x.fsStroke) 32767 ∧
          t.rams[r].coilMa = roundDiv ((counts[3 * r.val + 2]).toInt * x.coilFsMa) 32767 ∧
          (x.state ≠ .active →
            t.rams[r] =
              { x with
                force := t.rams[r].force
                stroke := t.rams[r].stroke
                coilMa := t.rams[r].coilMa
                loadCount := (counts[3 * r.val]).toInt })

/-- R49 to R58, with R41 and R40's counts: the force chain of a ram that is ACTIVE before and after a sample set,
stage by stage of Table 3-2, from its group's command and derate factor as they stood before the sample set. -/
def Obligations.ForceChainDrivesAnActiveRam : Prop :=
  ∀ (counts : Vector (BitVec 16) 28) (s t : State) (e : Nat) (r : Fin 8),
    s.inReset = false → s.scanEnds = some e → exec (.sampleSet counts) s = .next t →
    s.rams[r].state = .active → t.rams[r].state = .active →
    let x := s.rams[r]
    let g := s.groups[x.group]
    let force := roundDiv (((counts[3 * r.val]).toInt - x.loadZero) * x.fsForce) 32767
    let stroke := roundDiv (((counts[3 * r.val + 1]).toInt - x.strokeZero) * x.fsStroke) 32767
    let coil := roundDiv ((counts[3 * r.val + 2]).toInt * x.coilFsMa) 32767
    let demand := roundDiv (roundDiv g.command 1024 * x.share) 10000
    let derated := roundDiv (demand * g.derate) 1000
    let clampedTo := if derated < x.fMin then x.fMin else if x.fMax < derated then x.fMax else derated
    let setpoint := max (x.setpoint - x.slewMax) (min (x.setpoint + x.slewMax) clampedTo)
    let err := setpoint - force
    let candidate := max (-167772160000) (min 167772160000 (x.integrator + err * x.ki))
    let raw := roundDiv (err * x.kp) (2 ^ 20) + roundDiv candidate (2 ^ 24)
    let u := max (-10000) (min 10000 raw)
    t.rams[r] =
      { x with
        force := force
        stroke := stroke
        coilMa := coil
        loadCount := (counts[3 * r.val]).toInt
        coilCount :=
          if 2000 ≤ x.u.natAbs ∧ coil.natAbs * 40000 < x.u.natAbs * x.coilFsMa then x.coilCount + 1 else 0
        setpoint := setpoint
        clamped := decide (clampedTo ≠ derated)
        slewLimited := decide (clampedTo - x.setpoint < -x.slewMax ∨ (x.slewMax : Int) < clampedTo - x.setpoint)
        trackError := err.natAbs
        u := u
        saturated := decide (u = 10000 ∨ u = -10000)
        satCount := if u = 10000 ∨ u = -10000 then x.satCount + 1 else 0
        integrator := if (10000 < raw ∧ 0 < err) ∨ (raw < -10000 ∧ err < 0) then x.integrator else candidate
        shadowCompare := (roundDiv (s.hall.pwmPeriod * (10000 + u)) 20000).toNat }

/-- R38 to R41, R44, R161: which cause takes an ACTIVE ram out of ACTIVE at a sample set, in the order of R39, with
the values a trip leaves and its mark; with none of the four a ram trips only by a limit. -/
def Obligations.SampleSetTripsAnActiveRam : Prop :=
  ∀ (counts : Vector (BitVec 16) 28) (s t : State) (e : Nat) (r : Fin 8),
    s.inReset = false → s.scanEnds = some e → exec (.sampleSet counts) s = .next t →
    s.rams[r].state = .active →
    let load := (counts[3 * r.val]).toInt
    let x := (s.rams[r]).convert load (counts[3 * r.val + 1]).toInt (counts[3 * r.val + 2]).toInt
    let y := x.countCoil
    let z := (y.chain (roundDiv s.groups[x.group].command 1024) s.groups[x.group].derate
      s.hall.pwmPeriod).countSat
    let cause : TripCause :=
      if load = -32768 ∨ load = 32767 then .input
      else if x.stroke < x.strokeMin ∨ x.strokeMax < x.stroke then .stroke
      else if y.coilCount ≠ 0 ∧ y.coilPeriods ≤ y.coilCount then .coil
      else if z.satPeriods < z.satCount then .saturation
      else .none
    (cause ≠ .none → t.rams[r].state = .tripped ∧ t.rams[r].tripCause = cause) ∧
      (cause = .none →
        t.rams[r].state = .active ∨ (t.rams[r].state = .tripped ∧ t.rams[r].tripCause = .limit)) ∧
      (t.rams[r].state = .tripped →
        t.rams[r].Resting (roundDiv s.hall.pwmPeriod 2).toNat ∧ t.marks.get (.ram r) = true)

/-- R22, R38, R42: an assertion of ESTOP trips every ACTIVE ram with cause ESTOP and takes each group that had one to
IDLE; while ESTOP is asserted already it changes nothing (log 9). R22, R38, R42: a fall of HPU_READY trips every
ACTIVE ram with cause PRESSURE and takes each group that had one to IDLE; while HPU_READY is low already it changes
nothing (log 9). R42: a release of ESTOP and a rise of HPU_READY change the reported level and nothing else. -/
def Obligations.HallInputsTripEveryActiveRam : Prop :=
  (∀ s : State, s.inReset = false →
     (s.hall.estop = .clear →
       ∃ t, exec .estopAssert s = .next t ∧
         t = { s with
               hall := { s.hall with estop := .asserted }, rams := t.rams, groups := t.groups,
               marks := { s.marks with ram := t.marks.ram, group := t.marks.group } } ∧
         AllTripped .estop s t) ∧
       (s.hall.estop = .asserted → exec .estopAssert s = .next s)) ∧
    (∀ s : State, s.inReset = false →
       (s.hall.hpuReady = .high →
         ∃ t, exec .hpuReadyFall s = .next t ∧
           t = { s with
                 hall := { s.hall with hpuReady := .low }, rams := t.rams, groups := t.groups,
                 marks := { s.marks with ram := t.marks.ram, group := t.marks.group } } ∧
           AllTripped .pressure s t) ∧
         (s.hall.hpuReady = .low → exec .hpuReadyFall s = .next s)) ∧
    (∀ s : State, s.inReset = false →
       exec .estopRelease s = .next { s with hall := { s.hall with estop := .clear } } ∧
         exec .hpuReadyRise s = .next { s with hall := { s.hall with hpuReady := .high } })

/-! ## Ram requests -/

/-- R34, R35: RAM_START under the nine conditions of R34 puts the ram in ACTIVE with the values of R35, and nothing
else changes. R34: the key is checked first, then the nine conditions in their order; the first that fails gives the
refusal. -/
def Obligations.RamStartFollowsItsConditions : Prop :=
  (∀ (s : State) (r : Fin 8),
     let x := s.rams[r]
     let g := s.groups[x.group]
     Due (.ramStart (byte r.val)) s → s.sampled = true → x.state = .off → 0 < x.fsForce →
     s.hall.hpuReady = .high → s.hall.estop = .clear → (g.state = .idle ∨ g.state = .pause) →
     x.strokeMin ≤ x.stroke → x.stroke ≤ x.strokeMax → x.loadCount ≠ -32768 → x.loadCount ≠ 32767 →
     g.severity < 5 →
     exec (.ramStart (byte r.val)) s =
       .next
         { s with
           rams :=
             s.rams.set r
               { x with
                 state := .active
                 setpoint :=
                   if x.force < x.fMin then x.fMin else if x.fMax < x.force then x.fMax else x.force
                 integrator := 0, satCount := 0, coilCount := 0, clamped := false, slewLimited := false,
                 saturated := false, u := 0, trackError := 0,
                 shadowCompare := (roundDiv s.hall.pwmPeriod 2).toNat }
           marks := { s.marks with ram := s.marks.ram.set r true }
           port := answered ok s }) ∧
    ((∀ (s : State) (ram : Byte), Due (.ramStart ram) s → 8 ≤ ram.toNat → Refuses (.ramStart ram) .badKey s) ∧
       ∀ (s : State) (r : Fin 8),
         let x := s.rams[r]
         let g := s.groups[x.group]
         let early := s.sampled = true ∧ x.state = .off ∧ x.fsForce ≠ 0
         let pressed := s.hall.hpuReady = .high ∧ s.hall.estop = .clear
         let placed :=
           (g.state = .idle ∨ g.state = .pause) ∧ x.strokeMin ≤ x.stroke ∧ x.stroke ≤ x.strokeMax ∧
             x.loadCount ≠ -32768 ∧ x.loadCount ≠ 32767
         Due (.ramStart (byte r.val)) s →
           (¬early → Refuses (.ramStart (byte r.val)) .wrongState s) ∧
             (early → ¬pressed → Refuses (.ramStart (byte r.val)) .noPressure s) ∧
             (early → pressed → ¬placed → Refuses (.ramStart (byte r.val)) .wrongState s) ∧
             (early → pressed → placed → 5 ≤ g.severity →
               Refuses (.ramStart (byte r.val)) .limitActive s))

/-- R34, R36: RAM_STOP takes an ACTIVE ram of an IDLE group to OFF, is OK on an OFF ram, and is refused otherwise.
R34, R37: RAM_CLEAR takes a TRIPPED ram to OFF with trip_cause NONE and is refused on any other. R31, R33: the
valve-enable and dump lines of a ram that is not ACTIVE are low. -/
def Obligations.RamStopAndRamClearReturnToOff : Prop :=
  ((∀ (s : State) (ram : Byte), Due (.ramStop ram) s → 8 ≤ ram.toNat → Refuses (.ramStop ram) .badKey s) ∧
     ∀ (s : State) (r : Fin 8),
       let x := s.rams[r]
       Due (.ramStop (byte r.val)) s →
         (x.state = .active → s.groups[x.group].state = .idle →
           exec (.ramStop (byte r.val)) s =
             .next
               { s with
                 rams :=
                   s.rams.set r
                     { x with
                       state := .off, setpoint := 0, u := 0, trackError := 0, clamped := false,
                       slewLimited := false, saturated := false, satCount := 0, coilCount := 0,
                       integrator := 0, shadowCompare := (roundDiv s.hall.pwmPeriod 2).toNat }
                 marks := { s.marks with ram := s.marks.ram.set r true }
                 port := answered ok s }) ∧
           (x.state = .active → s.groups[x.group].state ≠ .idle →
             Refuses (.ramStop (byte r.val)) .wrongState s) ∧
           (x.state = .off → Idles (.ramStop (byte r.val)) s) ∧
           (x.state = .tripped → Refuses (.ramStop (byte r.val)) .wrongState s)) ∧
    ((∀ (s : State) (ram : Byte), Due (.ramClear ram) s → 8 ≤ ram.toNat → Refuses (.ramClear ram) .badKey s) ∧
       ∀ (s : State) (r : Fin 8),
         Due (.ramClear (byte r.val)) s →
           (s.rams[r].state = .tripped →
             exec (.ramClear (byte r.val)) s =
               .next
                 { s with
                   rams := s.rams.set r { s.rams[r] with state := .off, tripCause := .none }
                   marks := { s.marks with ram := s.marks.ram.set r true }
                   port := answered ok s }) ∧
             (s.rams[r].state ≠ .tripped → Refuses (.ramClear (byte r.val)) .wrongState s)) ∧
    (∀ (s : State) (r : Fin 8), s.rams[r].state ≠ .active → valveEnable r s = false ∧ dumpLine r s = false)

/-- R35: no command but RAM_START puts a ram in ACTIVE. R14, R15, R21: no command but an accepted GROUP_RUN puts a
group in RUN. -/
def Obligations.OnlyStartRequestsActivateAndRun : Prop :=
  (∀ (c : Instr) (s t : State) (r : Fin 8), exec c s = .next t → s.rams[r].state ≠ .active →
     t.rams[r].state = .active → c = .ramStart (byte r.val)) ∧
    (∀ (c : Instr) (s t : State) (g : Fin 4), exec c s = .next t → s.groups[g].state ≠ .run →
       t.groups[g].state = .run →
       c = .groupRunResume (byte g.val) ∨ ∃ form, c = .groupRunFromStep (byte g.val) form)

/-! ## The group advance -/

/-- R2, R5, R23: at a sample set that trips no ram, with no limit defined, every group makes one advance on its own
step list, and is marked when its state, cursor or pause cause changes. R12, R73, R132: at such a sample set a PEAK or
TROUGH of the trigger group reaches the round plan, and a WRAP that raises its group's life_cycles to a multiple of
window_cycles closes the window of its group's crack records; no other event does either. R5, R7, R18: the advance of
IDLE, PAUSE and UNLOAD. R9, R10, R12: an INSPECT step holds; a lead-in ramps to the mean at transfer_rate and raises
no event. -/
def Obligations.GroupsAdvanceByTheirState : Prop :=
  (∀ (counts : Vector (BitVec 16) 28) (s t : State) (e : Nat), s.inReset = false → s.scanEnds = some e →
     exec (.sampleSet counts) s = .next t → (∀ l : Fin 24, s.limits[l] = none) →
     (∀ r : Fin 8, t.rams[r].state = s.rams[r].state) →
     ∀ g : Fin 4,
       t.groups[g] =
           (s.groups[g].advance (stepOf g s.groups[g].cursor s) (stepOf g (s.groups[g].cursor + 1) s)).1 ∧
         t.marks.group[g] =
           (s.marks.group[g] ||
             decide (t.groups[g].state ≠ s.groups[g].state ∨ t.groups[g].cursor ≠ s.groups[g].cursor ∨
               t.groups[g].pauseCause ≠ s.groups[g].pauseCause))) ∧
    (∀ (counts : Vector (BitVec 16) 28) (s t : State) (e : Nat), s.inReset = false → s.scanEnds = some e →
       exec (.sampleSet counts) s = .next t → (∀ l : Fin 24, s.limits[l] = none) →
       (∀ r : Fin 8, t.rams[r].state = s.rams[r].state) →
       let event (g : Fin 4) :=
         (s.groups[g].advance (stepOf g s.groups[g].cursor s) (stepOf g (s.groups[g].cursor + 1) s)).2
       let advanced : State := { s with clk := max s.clk e, groups := t.groups }
       let u :=
         match event s.plan.trigGroup with
         | .peak => peakTrigger s.plan.trigGroup advanced
         | .trough => troughTrigger s.plan.trigGroup advanced
         | .none | .wrap => advanced
       let closes (g : Fin 4) :=
         event g = .wrap ∧ t.groups[g].lifeCycles ≠ s.groups[g].lifeCycles ∧
           t.groups[g].lifeCycles % s.crackset.windowCycles = 0
       t.plan = u.plan ∧ t.round = u.round ∧ t.clk = u.clk ∧ t.marks.plan = u.marks.plan ∧
         ∀ c : Fin 32,
           (∀ (g : Fin 4) (y : Crack), s.cracks[c] = some y → y.refGroup = some g → closes g →
             t.cracks[c] = (closeWindow g s).cracks[c] ∧
               t.marks.crack[c] = (closeWindow g s).marks.crack[c]) ∧
             ((∀ (g : Fin 4) (y : Crack), s.cracks[c] = some y → y.refGroup = some g → ¬closes g) →
               t.cracks[c] = s.cracks[c] ∧ t.marks.crack[c] = s.marks.crack[c])) ∧
    (∀ (x : Group) (st next : StepRec),
       let move : Int := max 1 (roundDiv (x.transferRate * 1024) 2000)
       (x.state = .idle → x.advance st next = ({ x with command := x.seatLoad * 1024 }, .none)) ∧
         (x.state = .pause → x.advance st next = (x, .none)) ∧
         (x.state = .unload → (x.seatLoad * 1024 - x.command).natAbs ≤ move →
           x.advance st next =
             ({ x with
                 state := .idle, command := x.seatLoad * 1024, phase := 0, cycling := .leadIn,
                 stepEntered := false, pauseCause := .none }, .none)) ∧
         (x.state = .unload → move < (x.seatLoad * 1024 - x.command).natAbs →
           x.advance st next =
             ({ x with
                 command :=
                   if x.command < x.seatLoad * 1024 then x.command + move else x.command - move }, .none))) ∧
    (∀ (x : Group) (st next : StepRec),
       let move : Int := max 1 (roundDiv (x.transferRate * 1024) 2000)
       (x.state = .run → st.kind = .inspect → x.advance st next = (x, .none)) ∧
         (x.state = .run ∨ x.state = .ending → st.kind = .cycle → x.cycling = .leadIn →
           ((st.mean * 1024 - x.command).natAbs ≤ move →
             x.advance st next =
               ({ x with command := st.mean * 1024, phase := 0, cycling := .cycling }, .none)) ∧
             (move < (st.mean * 1024 - x.command).natAbs →
               x.advance st next =
                 ({ x with
                     command := if x.command < st.mean * 1024 then x.command + move else x.command - move },
                   .none))))

/-- R6: what the completion of a step makes of a group. R7: a RAMP moves by its move at every advance and is done at
the advance that reaches the target, however many it takes. R8: a DWELL holds the command and is done at the 2d-th
advance after its entry. -/
def Obligations.StepsTakeTheirTime : Prop :=
  (∀ (x : Group) (next : StepRec),
     (x.cursor + 1 < x.stepCount →
       x.stepDone next =
         { x with
           cursor := x.cursor + 1
           dwellLeft := if next.kind = .dwell then 2 * next.durationMs else 0
           cyclesLeft := if next.kind = .cycle then next.count else 0
           phase := 0
           phaseInc :=
             if next.kind = .cycle then
               BitVec.ofNat 32 (roundDiv (next.freqMhz * 4294967296) 2000000).toNat
             else x.phaseInc
           cycling := .leadIn
           pauseCause := if next.kind = .inspect then .inspect else .none
           stepEntered := true }) ∧
       (x.stepCount ≤ x.cursor + 1 →
         x.stepDone next =
           { x with cursor := x.cursor + 1, state := .pause, pauseCause := .programEnd, stepEntered := false })) ∧
    (∀ (x : Group) (st next : StepRec) (k : Nat),
       let move : Int := max 1 (roundDiv (st.rate * 1024) 2000)
       x.state = .run → st.kind = .ramp →
       (move * k < (st.target * 1024 - x.command).natAbs →
         advances st next k x =
           { x with
             command := if x.command < st.target * 1024 then x.command + move * k else x.command - move * k }) ∧
         (move * k < (st.target * 1024 - x.command).natAbs ∨ (k = 0 ∧ x.command = st.target * 1024) →
           (st.target * 1024 - x.command).natAbs ≤ move * (k + 1) →
           advances st next (k + 1) x = { x with command := st.target * 1024 }.stepDone next)) ∧
    (∀ (x : Group) (st next : StepRec) (k : Nat),
       x.state = .run → st.kind = .dwell → x.dwellLeft = 2 * st.durationMs →
       (k < 2 * st.durationMs →
         advances st next k x = { x with dwellLeft := 2 * st.durationMs - k }) ∧
         (k + 1 = 2 * st.durationMs →
           advances st next (k + 1) x = { x with dwellLeft := 0 }.stepDone next))

/-- R11: while cycling, the whole-newton command is the mean plus the scaled table entry of the new phase. R11, Table
1-4: the sine table is odd-symmetric with its extremes at a quarter and three quarters, and so the command never
leaves mean ± amp. R12, R13, R17: a WRAP counts the life cycle and the step's cycle, and completes the step or pauses
an ENDING group. -/
def Obligations.WaveformFollowsTheSineTable : Prop :=
  (∀ (x : Group) (st next : StepRec),
     let phase := x.phase + x.phaseInc
     x.state = .run ∨ x.state = .ending → st.kind = .cycle → x.cycling = .cycling →
     x.phase.toNat ≤ phase.toNat →
     x.advance st next =
       ({ x with
           phase := phase
           command := (st.mean + roundDiv (st.amp * sine (phase.toNat / 1048576)) 32767) * 1024 },
         if x.phase.toNat < 1073741824 ∧ 1073741824 ≤ phase.toNat then .peak
         else if x.phase.toNat < 3221225472 ∧ 3221225472 ≤ phase.toNat then .trough
         else .none)) ∧
    ((∀ k : Nat, 1 ≤ k → k ≤ 2047 → sine (4096 - k) = -sine k) ∧ sine 0 = 0 ∧ sine 2048 = 0 ∧
       sine 1024 = 32767 ∧ sine 3072 = -32767 ∧
       (∀ k : Nat, k < 4096 → -32767 ≤ sine k ∧ sine k ≤ 32767) ∧
       ∀ (x : Group) (st : StepRec),
         st.mean - st.amp ≤ (x.wave st).newtons ∧ (x.wave st).newtons ≤ st.mean + st.amp) ∧
    (∀ (x : Group) (st next : StepRec),
       let phase := x.phase + x.phaseInc
       let y : Group :=
         { x with
           phase := phase
           command := (st.mean + roundDiv (st.amp * sine (phase.toNat / 1048576)) 32767) * 1024
           lifeCycles := min (x.lifeCycles + 1) (max x.lifeCycles 4294967295)
           cyclesLeft := x.cyclesLeft - 1 }
       st.kind = .cycle → x.cycling = .cycling → phase.toNat < x.phase.toNat →
       (x.state = .run → 1 < x.cyclesLeft → x.advance st next = (y, .wrap)) ∧
         (x.state = .run → x.cyclesLeft ≤ 1 →
           x.advance st next = ({ y with phase := 0 }.stepDone next, .wrap)) ∧
         (x.state = .ending → 1 < x.cyclesLeft →
           x.advance st next = ({ y with state := .pause, command := st.mean * 1024, phase := 0 }, .wrap)) ∧
         (x.state = .ending → x.cyclesLeft ≤ 1 →
           x.advance st next =
             ({ y with
                 state := .pause
                 command := st.mean * 1024
                 phase := 0
                 cursor := x.cursor + 1
                 stepEntered := false
                 pauseCause := if x.cursor + 1 < x.stepCount then x.pauseCause else .programEnd }, .wrap)))

/-- R13's law: no command but power-on reset lowers a group's life_cycles. -/
def Obligations.LifeCyclesNeverDecrease : Prop :=
  ∀ (s t : State) (g : Fin 4), step s = .next t →
    (∀ hpu estop, s.pending.head? ≠ some (.powerOnReset hpu estop)) →
    s.groups[g].lifeCycles ≤ t.groups[g].lifeCycles

/-! ## Group requests -/

/-- R6, R14, R15: an accepted GROUP_RUN FROM_STEP enters the step fresh, and nothing else changes. R6, R14, R15: an
accepted GROUP_RUN RESUME goes on with an entered step from PAUSE, enters it fresh where it was not entered, and
enters it again from IDLE with the cycles it still had. R14, R186: GROUP_RUN checks its key, its form, and the five
conditions in their order; the first that fails gives the refusal. -/
def Obligations.GroupRunEntersOrRefuses : Prop :=
  (∀ (s : State) (g : Fin 4) (form : Byte),
     let x := s.groups[g]
     let st := stepOf g form.toNat s
     Due (.groupRunFromStep (byte g.val) form) s → form.toNat ≤ 15 →
     (x.state = .idle ∨ x.state = .pause) →
     (∃ r : Fin 8, s.rams[r].group = g ∧ s.rams[r].state = .active) →
     (∀ r : Fin 8, s.rams[r].group = g → s.rams[r].state ≠ .tripped) → x.severity < 2 →
     (∀ i : Fin 16, i.val < x.stepCount → (stepOf g i.val s).kind ≠ .empty) → form.toNat < x.stepCount →
     exec (.groupRunFromStep (byte g.val) form) s =
       .next
         { s with
           groups :=
             s.groups.set g
               { x with
                 state := .run
                 cursor := form.toNat
                 dwellLeft := if st.kind = .dwell then 2 * st.durationMs else 0
                 cyclesLeft := if st.kind = .cycle then st.count else 0
                 phase := 0
                 phaseInc :=
                   if st.kind = .cycle then
                     BitVec.ofNat 32 (roundDiv (st.freqMhz * 4294967296) 2000000).toNat
                   else x.phaseInc
                 cycling := .leadIn
                 pauseCause := if st.kind = .inspect then .inspect else .none
                 stepEntered := true }
           marks := { s.marks with group := s.marks.group.set g true }
           port := answered ok s }) ∧
    (∀ (s : State) (g : Fin 4),
       let x := s.groups[g]
       let st := stepOf g x.cursor s
       Due (.groupRunResume (byte g.val)) s → (x.state = .idle ∨ x.state = .pause) →
       (∃ r : Fin 8, s.rams[r].group = g ∧ s.rams[r].state = .active) →
       (∀ r : Fin 8, s.rams[r].group = g → s.rams[r].state ≠ .tripped) → x.severity < 2 →
       (∀ i : Fin 16, i.val < x.stepCount → (stepOf g i.val s).kind ≠ .empty) → x.cursor < x.stepCount →
       ∃ y : Group,
         exec (.groupRunResume (byte g.val)) s =
           .next
             { s with
               groups := s.groups.set g y
               marks := { s.marks with group := s.marks.group.set g true }
               port := answered ok s } ∧
         (x.state = .pause → x.stepEntered = true →
           y = { x with state := .run, pauseCause := if st.kind = .inspect then .inspect else .none }) ∧
         (x.state = .idle ∨ x.stepEntered = false →
           y =
             { x with
               state := .run
               dwellLeft := if st.kind = .dwell then 2 * st.durationMs else 0
               cyclesLeft :=
                 if x.state = .idle ∧ 0 < x.cyclesLeft then x.cyclesLeft
                 else if st.kind = .cycle then st.count else 0
               phase := 0
               phaseInc :=
                 if st.kind = .cycle then
                   BitVec.ofNat 32 (roundDiv (st.freqMhz * 4294967296) 2000000).toNat
                 else x.phaseInc
               cycling := .leadIn
               pauseCause := if st.kind = .inspect then .inspect else .none
               stepEntered := true })) ∧
    ((∀ (s : State) (group : Byte), 4 ≤ group.toNat →
         (Due (.groupRunResume group) s → Refuses (.groupRunResume group) .badKey s) ∧
           ∀ form, Due (.groupRunFromStep group form) s → Refuses (.groupRunFromStep group form) .badKey s) ∧
       (∀ (s : State) (g : Fin 4) (form : Byte), Due (.groupRunFromStep (byte g.val) form) s →
         15 < form.toNat → Refuses (.groupRunFromStep (byte g.val) form) .badValue s) ∧
       ∀ (s : State) (g : Fin 4) (c : Instr),
         let x := s.groups[g]
         let placed :=
           (x.state = .idle ∨ x.state = .pause) ∧
             (∃ r : Fin 8, s.rams[r].group = g ∧ s.rams[r].state = .active) ∧
             ∀ r : Fin 8, s.rams[r].group = g → s.rams[r].state ≠ .tripped
         let filled := ∀ i : Fin 16, i.val < x.stepCount → (stepOf g i.val s).kind ≠ .empty
         Due c s →
         (c = .groupRunResume (byte g.val) ∨
           ∃ form : Byte, form.toNat ≤ 15 ∧ c = .groupRunFromStep (byte g.val) form) →
           (¬placed → Refuses c .wrongState s) ∧
             (placed → 2 ≤ x.severity → Refuses c .limitActive s) ∧
             (placed → x.severity < 2 → ¬filled → Refuses c .badValue s) ∧
             (placed → x.severity < 2 → filled →
               (c = .groupRunResume (byte g.val) → x.stepCount ≤ x.cursor → Refuses c .wrongState s) ∧
                 ∀ form : Byte, c = .groupRunFromStep (byte g.val) form → x.stepCount ≤ form.toNat →
                   Refuses c .badValue s))

/-- R14, R16: GROUP_PAUSE NOW in each group state. R14, R17: GROUP_PAUSE AT_CYCLE_END in each group state; what ENDING
then does is in WaveformFollowsTheSineTable. -/
def Obligations.GroupPausesFollowTheStates : Prop :=
  ((∀ (s : State) (group : Byte), Due (.groupPauseNow group) s → 4 ≤ group.toNat →
       Refuses (.groupPauseNow group) .badKey s) ∧
     ∀ (s : State) (g : Fin 4),
       let x := s.groups[g]
       Due (.groupPauseNow (byte g.val)) s →
         (x.state = .run ∨ x.state = .ending →
           exec (.groupPauseNow (byte g.val)) s =
             .next
               { s with
                 groups := s.groups.set g { x with state := .pause, pauseCause := .supervisor }
                 marks := { s.marks with group := s.marks.group.set g true }
                 port := answered ok s }) ∧
           (x.state = .pause → Idles (.groupPauseNow (byte g.val)) s) ∧
           (x.state = .idle ∨ x.state = .unload → Refuses (.groupPauseNow (byte g.val)) .wrongState s)) ∧
    ((∀ (s : State) (group : Byte), Due (.groupPauseAtCycleEnd group) s → 4 ≤ group.toNat →
         Refuses (.groupPauseAtCycleEnd group) .badKey s) ∧
       ∀ (s : State) (g : Fin 4),
         let x := s.groups[g]
         let cycling := (stepOf g x.cursor s).kind = .cycle ∧ x.cycling = .cycling
         Due (.groupPauseAtCycleEnd (byte g.val)) s →
           (x.state = .run →
             exec (.groupPauseAtCycleEnd (byte g.val)) s =
               .next
                 { s with
                   groups :=
                     s.groups.set g
                       { x with state := if cycling then .ending else .pause, pauseCause := .supervisor }
                   marks := { s.marks with group := s.marks.group.set g true }
                   port := answered ok s }) ∧
             (x.state = .ending ∨ x.state = .pause → Idles (.groupPauseAtCycleEnd (byte g.val)) s) ∧
             (x.state = .idle ∨ x.state = .unload →
               Refuses (.groupPauseAtCycleEnd (byte g.val)) .wrongState s))

/-- R14, R18: GROUP_UNLOAD in each group state; a group with no ACTIVE ram enters IDLE at once. R6, R9: GROUP_RELEASE
completes the INSPECT step of a group in RUN and is refused otherwise. -/
def Obligations.UnloadAndReleaseFollowTheStates : Prop :=
  ((∀ (s : State) (group : Byte), Due (.groupUnload group) s → 4 ≤ group.toNat →
       Refuses (.groupUnload group) .badKey s) ∧
     ∀ (s : State) (g : Fin 4),
       let x := s.groups[g]
       let active := ∃ r : Fin 8, s.rams[r].group = g ∧ s.rams[r].state = .active
       Due (.groupUnload (byte g.val)) s →
         (x.state = .run ∨ x.state = .ending ∨ x.state = .pause →
           exec (.groupUnload (byte g.val)) s =
             .next
               { s with
                 groups :=
                   s.groups.set g
                     (if active then { x with state := .unload, pauseCause := .none }
                     else
                       { x with
                         state := .idle, command := x.seatLoad * 1024, phase := 0, cycling := .leadIn,
                         stepEntered := false, pauseCause := .none })
                 marks := { s.marks with group := s.marks.group.set g true }
                 port := answered ok s }) ∧
           (x.state = .idle ∨ x.state = .unload → Idles (.groupUnload (byte g.val)) s)) ∧
    ((∀ (s : State) (group : Byte), Due (.groupRelease group) s → 4 ≤ group.toNat →
         Refuses (.groupRelease group) .badKey s) ∧
       ∀ (s : State) (g : Fin 4),
         let x := s.groups[g]
         let inspecting := x.state = .run ∧ (stepOf g x.cursor s).kind = .inspect
         Due (.groupRelease (byte g.val)) s →
           (inspecting →
             exec (.groupRelease (byte g.val)) s =
               .next
                 { s with
                   groups := s.groups.set g (x.stepDone (stepOf g (x.cursor + 1) s))
                   marks := { s.marks with group := s.marks.group.set g true }
                   port := answered ok s }) ∧
             (¬inspecting → Refuses (.groupRelease (byte g.val)) .wrongState s))

/-! ## Strain rounds -/

/-- R60, R63, R65, R72: a round fixes its kind, the pods in use and its trigger group, and enters DELAY, CLEAR or
LATCH, with the values captured at its START, which comes one bit time after the latest STOP at the earliest (a bit
time at that STOP's rate: assumption log 25). R73: which cycle events are triggers, and what a trigger does:
discarded, counted as missed, or the start of a round, which disarms a SINGLE plan. -/
def Obligations.TriggersStartRounds : Prop :=
  (∀ (kind : TriggerKind) (delayed : Bool) (s : State),
     let pods := (List.finRange 12).filter fun p => decide (∃ i : Fin 4, s.gauges[gaugeOf p i].enabled = true)
     let r : Round :=
       { s.round with
         kind := kind, group := s.plan.trigGroup, pods := pods, todo := pods, latchAnswered := false,
         podsRead := 0, podsMissed := 0, cyclicDue := false, restarting := false }
     let start := max s.clk s.round.busFree
     (delayed = true → 0 < s.plan.delayPeriods →
       roundStart kind delayed s =
         { s with
           plan := { s.plan with roundState := .delay }
           round := { r with delayCount := s.plan.delayPeriods } }) ∧
       (delayed = false ∨ s.plan.delayPeriods = 0 →
         (s.plan.busState = .ok →
           roundStart kind delayed s =
             { s with
               clk := start
               plan := { s.plan with roundState := .latch }
               round :=
                 { r with
                   latchTime := hallTime { s with clk := start }
                   trigCommand := roundDiv s.groups[s.plan.trigGroup].command 1024
                   trigLifeCycles := s.groups[s.plan.trigGroup].lifeCycles
                   busStart := start
                   limitWrites := [] } }) ∧
           (s.plan.busState = .fault →
             roundStart kind delayed s =
               { s with
                 plan := { s.plan with roundState := .clear }
                 round := { r with clearFor := .start, busStart := s.clk, limitWrites := [] } }))) ∧
    (∀ s : State,
       (∀ g : Fin 4,
         (g = s.plan.trigGroup ∧ (s.plan.source = .peak ∨ s.plan.source = .both) →
           peakTrigger g s = trigger .peak s) ∧
           (¬(g = s.plan.trigGroup ∧ (s.plan.source = .peak ∨ s.plan.source = .both)) → peakTrigger g s = s) ∧
           (g = s.plan.trigGroup ∧ (s.plan.source = .trough ∨ s.plan.source = .both) →
             troughTrigger g s = trigger .trough s) ∧
           (¬(g = s.plan.trigGroup ∧ (s.plan.source = .trough ∨ s.plan.source = .both)) →
             troughTrigger g s = s)) ∧
         ∀ kind : TriggerKind,
           (s.plan.mode = .cyclic ∨ s.plan.armed = false → trigger kind s = s) ∧
             (s.plan.mode ≠ .cyclic → s.plan.armed = true → s.plan.roundState ≠ .idle →
               trigger kind s =
                 { s with
                   plan :=
                     { s.plan with
                       missedTriggers :=
                         if s.plan.missedTriggers < 4294967295 then s.plan.missedTriggers + 1
                         else s.plan.missedTriggers }
                   marks := { s.marks with plan := s.marks.plan || decide (s.plan.missedTriggers = 0) } }) ∧
             (s.plan.mode = .repeating → s.plan.armed = true → s.plan.roundState = .idle →
               trigger kind s = roundStart kind true s) ∧
             (s.plan.mode = .single → s.plan.armed = true → s.plan.roundState = .idle →
               trigger kind s =
                 roundStart kind true
                   { s with
                     plan := { s.plan with armed := false }
                     marks := { s.marks with plan := true } }))

/-- R64, R72, R73, R74: the expiries that a control tick's counts bring about, each a command of its own (assumption
log 11); the latch after a DELAY captures the values of the round's own group; an expiry whose count or flag does not
stand changes nothing (the model's choice, log 9). R75: GAUGE_ROUND begins a round in IDLE whatever source, mode and
armed are, and is refused otherwise; GAUGE_ARM sets armed, and ARM restarts the interval timer; the PLAN is marked
when armed changes (R76). -/
def Obligations.RoundTimersAndRequestsAct : Prop :=
  (∀ s : State, s.inReset = false →
     let start := max s.clk s.round.busFree
     (s.plan.source = .timed → s.round.intervalCount = 0 →
       exec .intervalTimerExpiry s =
         .next (trigger .timed { s with round := { s.round with intervalCount := 2 * s.plan.intervalMs } })) ∧
       (s.plan.source ≠ .timed ∨ s.round.intervalCount ≠ 0 → exec .intervalTimerExpiry s = .next s) ∧
       (s.round.cyclicDue = true → s.plan.roundState = .idle → s.plan.mode = .cyclic → s.plan.armed = true →
         exec .cyclicStart s = .next (roundStart .cyclic true s)) ∧
       (s.round.cyclicDue = false ∨ s.plan.roundState ≠ .idle ∨ s.plan.mode ≠ .cyclic ∨ s.plan.armed = false →
         exec .cyclicStart s = .next s) ∧
       (s.plan.roundState = .delay → s.round.delayCount = 0 → s.plan.busState = .ok →
         exec .delayExpiry s =
           .next
             { s with
               clk := start
               plan := { s.plan with roundState := .latch }
               round :=
                 { s.round with
                   latchTime := hallTime { s with clk := start }
                   trigCommand := roundDiv s.groups[s.round.group].command 1024
                   trigLifeCycles := s.groups[s.round.group].lifeCycles
                   busStart := start
                   limitWrites := [] } }) ∧
       (s.plan.roundState = .delay → s.round.delayCount = 0 → s.plan.busState = .fault →
         exec .delayExpiry s =
           .next
             { s with
               plan := { s.plan with roundState := .clear }
               round := { s.round with clearFor := .start, busStart := s.clk, limitWrites := [] } }) ∧
       (s.plan.roundState ≠ .delay ∨ s.round.delayCount ≠ 0 → exec .delayExpiry s = .next s)) ∧
    (∀ s : State,
       (Due .gaugeRound s → s.plan.roundState = .idle →
         exec .gaugeRound s = .next { roundStart .supervisor false s with port := answered ok s }) ∧
         (Due .gaugeRound s → s.plan.roundState ≠ .idle → Refuses .gaugeRound .wrongState s) ∧
         (Due .gaugeArmArm s →
           exec .gaugeArmArm s =
             .next
               { s with
                 plan := { s.plan with armed := true }
                 round := { s.round with intervalCount := 2 * s.plan.intervalMs }
                 marks := { s.marks with plan := s.marks.plan || !s.plan.armed }
                 port := answered ok s }) ∧
         (Due .gaugeArmDisarm s →
           exec .gaugeArmDisarm s =
             .next
               { s with
                 plan := { s.plan with armed := false }
                 marks := { s.marks with plan := s.marks.plan || s.plan.armed }
                 port := answered ok s }))

/-- R60, R61, R65, R67, R71, R187: SCL and SDA are released where nothing is clocked, and SCL in the high half of
every bit (low in the other half, DEDUCED, assumption log 31); the bits of a latch broadcast whose address byte is
acknowledged; the STOP of the latch broadcast with pods to read begins WAIT, with none completes the round, and the
expiry of WAIT begins the first read. A broadcast that no pod stretches takes its bit times, the earliest it can end
(assumption log 13). The bit time after its STOP is at the STOP's own rate (assumption log 25). R61: the limit of a
stretch is stretch_limit_us as it stood at the release of SCL that began it: the value that the first WRITE after the
release replaced, and the present one where none came after. A stretch ends one such limit after its release, at the
earliest moment, now or later, at which any release of the bus activity does (the model's choice, assumption log 13).
R61, R66, R70, R77, R84, R85: a stretch timeout comes at the end of a stretch (the earliest moment, assumption log
13): in LATCH it leaves the latch unanswered, in READ it makes the pod missed with reason STRETCH, and in both begins
the bus clear; a RESTART in progress keeps the miss from being handed. R88, R89: the marks of the pod and its gauges,
and that only the limits on its gauges can act beside. In any other state it changes nothing (log 9). -/
def Obligations.LatchesWaitAndStretchesClear : Prop :=
  (∀ (addrAck dataAck : Bool) (s : State), s.inReset = false →
     let bit := if s.hall.busSpeed = .kbit100 then 400 else 100
     let stop := max s.clk (s.round.busStart + (if addrAck then 20 else 11) * bit)
     ((s.plan.roundState = .idle ∨ s.plan.roundState = .delay ∨ s.plan.roundState = .wait) →
         ∀ n half, sclReleased n half s = true ∧ sdaReleased n s = true) ∧
       (s.plan.roundState = .latch →
         ∀ n, sclReleased n .high s = true ∧ sclReleased n .low s = decide (18 ≤ n)) ∧
       (s.plan.roundState = .latch →
       busLevels s =
         ((List.range 8).map fun j => (0x00 : Byte).getMsbD j) ++
           true :: ((List.range 8).map fun j => (0x5C : Byte).getMsbD j) ++ [true]) ∧
       (s.plan.roundState = .latch → s.round.restarting = false → s.round.pods ≠ [] →
       exec (.latchBroadcastDone addrAck dataAck) s =
         .next
           { s with
             clk := stop
             plan := { s.plan with roundState := .wait }
             round :=
               { s.round with
                 latchAnswered := addrAck && dataAck
                 waitEnds := stop + 40 * s.hall.latchWaitUs
                 busFree := stop + bit } }) ∧
       (s.plan.roundState = .latch → s.round.restarting = false → s.round.pods = [] →
         exec (.latchBroadcastDone addrAck dataAck) s =
           .next
             (completeRound false
               { s with
                 clk := stop
                 round := { s.round with latchAnswered := addrAck && dataAck, busFree := stop + bit } })) ∧
       (s.plan.roundState = .wait →
         exec .latchWaitExpiry s =
           .next
             { s with
               clk := max s.clk s.round.waitEnds
               plan := { s.plan with roundState := .read }
               round := { s.round with busStart := max s.clk s.round.waitEnds, limitWrites := [] } }) ∧
       (s.plan.roundState ≠ .wait → exec .latchWaitExpiry s = .next s)) ∧
    ((∀ (released : Nat) (s : State),
       ((∀ w ∈ s.round.limitWrites, w.1 ≤ released) → stretchLimitAt released s = s.hall.stretchLimitUs) ∧
         ∀ (later earlier : List (Nat × Nat)) (w : Nat × Nat), s.round.limitWrites = later ++ w :: earlier →
           released < w.1 → (∀ x ∈ earlier, x.1 ≤ released) → stretchLimitAt released s = w.2) ∧
       ∀ s : State,
         s.clk ≤ stretchEnd s ∧
           (∃ released, s.round.busStart ≤ released ∧
             stretchEnd s = released + 40 * stretchLimitAt released s) ∧
           (∀ released, s.round.busStart ≤ released → s.clk ≤ released + 40 * stretchLimitAt released s →
             stretchEnd s ≤ released + 40 * stretchLimitAt released s) ∧
           (s.round.limitWrites = [] →
             stretchEnd s = max s.clk (s.round.busStart + 40 * s.hall.stretchLimitUs))) ∧
    (∀ s : State, s.inReset = false →
       let clk := max s.clk (stretchEnd s)
       (s.plan.roundState ≠ .latch → s.plan.roundState ≠ .read →
           exec .stretchTimeout s = .next s) ∧
         (s.plan.roundState = .latch →
           exec .stretchTimeout s =
             .next
               { s with
                 clk := clk
                 plan := { s.plan with roundState := .clear }
                 round :=
                   { s.round with
                     latchAnswered := false, clearFor := .latch, busStart := clk, limitWrites := [] } }) ∧
         (s.plan.roundState = .read → s.round.restarting = true →
           exec .stretchTimeout s =
             .next
               { s with
                 clk := clk
                 plan := { s.plan with roundState := .clear }
                 round := { s.round with clearFor := .pod, busStart := clk, limitWrites := [] } }) ∧
         ∀ (p : Fin 12) (rest : List (Fin 12)), s.plan.roundState = .read →
           s.round.restarting = false → s.round.todo = p :: rest →
           ∃ t, exec .stretchTimeout s = .next t ∧
             t = { s with
                   clk := clk, plan := { s.plan with roundState := .clear },
                   round :=
                     { s.round with
                       podsMissed := s.round.podsMissed + 1, clearFor := .pod, busStart := clk,
                       limitWrites := [] },
                   gpods :=
                     s.gpods.set p
                       { s.gpods[p] with
                         consecutiveMisses := satInc 255 s.gpods[p].consecutiveMisses
                         misses := satInc max32 s.gpods[p].misses
                         stretchTimeouts := satInc max32 s.gpods[p].stretchTimeouts
                         lastMiss := .stretch },
                   gauges := t.gauges, rams := t.rams, groups := t.groups, limits := t.limits,
                     marks :=
                       { s.marks with
                         gauge := t.marks.gauge,
                         gpod :=
                           s.marks.gpod.set p
                             (s.marks.gpod[p] || decide (s.gpods[p].consecutiveMisses = 0)),
                         ram := t.marks.ram, group := t.marks.group, limit := t.marks.limit } } ∧
               (NoStrainLimit s p → LimitsRest s t) ∧
               (∀ k : Fin 48,
                 t.marks.gauge[k] =
                   (s.marks.gauge[k] || decide (t.gauges[k].state ≠ s.gauges[k].state))) ∧
               ∀ k : Fin 48,
               t.gauges[k] =
                 if podOf k = p ∧ s.gauges[k].enabled = true ∧
                     s.hall.staleLimit ≤ satInc 255 s.gpods[p].consecutiveMisses ∧
                     s.gauges[k].state ≠ .disabled then
                   { s.gauges[k] with state := .stale }
                 else s.gauges[k])

/-- R71, R74, R76: completion writes the summary, returns to IDLE, begins the rest of a CYCLIC plan and marks an
abort; beyond these only the limits on the round's gauges can act. -/
def Obligations.CompletionWritesTheSummary : Prop :=
  ∀ (aborted : Bool) (s : State),
    let t := completeRound aborted s
    t = { s with
          plan := t.plan, round := t.round, rams := t.rams, groups := t.groups, limits := t.limits,
          marks :=
            { s.marks with
              plan := s.marks.plan || aborted, ram := t.marks.ram, group := t.marks.group,
              limit := t.marks.limit } } ∧
      t.plan =
        { s.plan with
          roundState := .idle
          roundNumber :=
            if s.plan.roundNumber < 4294967295 then s.plan.roundNumber + 1 else s.plan.roundNumber
          trigger := s.round.kind, latchTime := s.round.latchTime, trigCommand := s.round.trigCommand,
          trigLifeCycles := s.round.trigLifeCycles, latchAnswered := s.round.latchAnswered,
          aborted := aborted, podsRead := s.round.podsRead, podsMissed := s.round.podsMissed } ∧
      t.round = { s.round with restFlag := s.round.restFlag || decide (s.plan.mode = .cyclic) } ∧
      
      ((∀ p ∈ s.round.pods, NoStrainLimit s p) → LimitsRest s t)

/-- R68 to R71, R81, R84, R85, R187: what the LF832 sends in a read that the pod acknowledges, its own acknowledge
bits included, and the 135 bits in whose low half alone it holds SCL low (DEDUCED, assumption log 31); the read is
judged, from the bits received with the most significant first, handed to the gauges and the GPOD record of its pod,
counted, and followed by the next read or the completion of the round. R88, R89: the marks of the pod and its gauges,
and that only the limits on its gauges, at the completion on those of the round, can act beside. A read that no pod
stretches takes its bit times, the earliest it can end (assumption log 13). The bit time after its STOP is at the
STOP's own rate (assumption log 25). -/
def Obligations.PodReadIsJudgedAndHandedOver : Prop :=
  ∀ (reply : PodReply) (s : State) (p : Fin 12) (rest : List (Fin 12)), s.inReset = false →
    s.plan.roundState = .read → s.round.restarting = false → s.round.todo = p :: rest →
    let miss : Option MissReason :=
      match reply with
      | .nack => some .noAck
      | .bits sda =>
        let b := podBytes sda
        if crc8 (b.toList.take 13) ≠ b[13] then some .badCheck
        else if (b[0]).getLsbD 7 = true then some .latchMissed
        else none
    let x := s.gpods[p]
    let bit := if s.hall.busSpeed = .kbit100 then 400 else 100
    (∀ n, sclReleased n .high s = true ∧ sclReleased n .low s = decide (135 ≤ n)) ∧
    busLevels s =
        ((List.range 8).map fun j => (byte (2 * (0x30 + p.val) + 1)).getMsbD j) ++
          true :: (List.range 14).flatMap (fun i => List.replicate 8 true ++ [decide (i = 13)]) ∧
    ∃ t, exec (.podReadDone reply) s = .next t ∧
      t = { s with
            clk := t.clk, gauges := t.gauges, gpods := t.gpods, plan := t.plan, round := t.round,
            rams := t.rams, groups := t.groups, limits := t.limits,
            marks :=
              { s.marks with
                gauge := t.marks.gauge,
                gpod :=
                  s.marks.gpod.set p
                    (s.marks.gpod[p] || decide (miss ≠ none ∧ x.consecutiveMisses = 0)),
                ram := t.marks.ram, group := t.marks.group, limit := t.marks.limit } } ∧
      (∀ k : Fin 48,
        t.marks.gauge[k] = (s.marks.gauge[k] || decide (t.gauges[k].state ≠ s.gauges[k].state))) ∧
      (NoStrainLimit s p → (rest = [] → ∀ q ∈ s.round.pods, NoStrainLimit s q) → LimitsRest s t) ∧
      t.clk = max s.clk (s.round.busStart + (if reply = .nack then 11 else 137) * bit) ∧
      (∀ q : Fin 12, q ≠ p → t.gpods[q] = s.gpods[q]) ∧
      (miss = none →
        t.gpods[p] = { x with consecutiveMisses := 0, reads := satInc max32 x.reads } ∧
          t.round.podsRead = s.round.podsRead + 1 ∧ t.round.podsMissed = s.round.podsMissed) ∧
      (∀ why, miss = some why →
        t.gpods[p] =
          { x with
            consecutiveMisses := satInc 255 x.consecutiveMisses
            misses := satInc max32 x.misses
            badChecks := if why = .badCheck then satInc max32 x.badChecks else x.badChecks
            lastMiss := why } ∧
          t.round.podsRead = s.round.podsRead ∧ t.round.podsMissed = s.round.podsMissed + 1 ∧
          ∀ k : Fin 48,
            t.gauges[k] =
              if podOf k = p ∧ s.gauges[k].enabled = true ∧
                  s.hall.staleLimit ≤ satInc 255 x.consecutiveMisses ∧ s.gauges[k].state ≠ .disabled then
                { s.gauges[k] with state := .stale }
              else s.gauges[k]) ∧
      (miss = none →
        ∀ (sda : Vector Bool 112), reply = .bits sda →
          let b : Vector Byte 14 := podBytes sda
          (∀ (i : Fin 14) (j : Fin 8), (b[i]).getMsbD j.val = sda[8 * i.val + j.val]) ∧
          (∀ k : Fin 48, podOf k ≠ p ∨ s.gauges[k].enabled = false → t.gauges[k] = s.gauges[k]) ∧
            ∀ i : Fin 4, s.gauges[gaugeOf p i].enabled = true →
              t.gauges[gaugeOf p i] =
                (s.gauges[gaugeOf p i]).reading
                  (b[1 + 3 * i.val] ++ b[2 + 3 * i.val] ++ b[3 + 3 * i.val] : BitVec 24).toInt
                  ((b[0]).getLsbD i.val)) ∧
      (rest ≠ [] →
        t.plan = s.plan ∧
          t.round =
            { s.round with
              podsRead := t.round.podsRead, podsMissed := t.round.podsMissed, todo := rest,
              busStart := t.clk + bit, busFree := t.clk + bit, limitWrites := [] }) ∧
      (rest = [] →
        t.plan.roundState = .idle ∧ t.plan.aborted = false ∧ t.plan.podsRead = t.round.podsRead ∧
          t.plan.podsMissed = t.round.podsMissed ∧
          t.round =
            { s.round with
              podsRead := t.round.podsRead, podsMissed := t.round.podsMissed, todo := [],
              busFree := t.clk + bit,
              restFlag := s.round.restFlag || decide (s.plan.mode = .cyclic) })

/-- R60, R61, R62, R63, R66, R70, R77: a bus clear pulses SCL, at most nine times, low in the low half of each pulse
alone (DEDUCED, assumption log 31), with SDA released; one that succeeds sets bus_state OK and lets the round go on:
to its latch, to WAIT, to the next pod or to its completion, or ends it for a RESTART. It ends after the pulses sent
and its STOP, the earliest it can (assumption log 13); WAIT counts from that STOP, and a round with no pods completes
at it (log 6). The bit time after that STOP is at its own rate (log 25). R61, R62, R63, R66, R70, R71, R72, R76, R77,
R84: a bus clear that fails sets bus_state FAULT, hands every pod still to come as missed with reason FAULT, and
aborts the round, or ends it for a RESTART. R88, R89: the marks of the pods and their gauges, and that only the limits
on gauges of the round can act beside. It fails after the ninth pulse, or at the end of a stretch, the earliest
moments (assumption log 13). -/
def Obligations.BusClearsGoOnOrAbort : Prop :=
  (∀ (n : Fin 9) (s : State), s.inReset = false → s.plan.roundState = .clear →
     let bit := if s.hall.busSpeed = .kbit100 then 400 else 100
     let stop := max s.clk (s.round.busStart + (n.val + 2) * bit)
     let cleared (r : Round) : State :=
       { s with
         clk := stop, marks := { s.marks with plan := s.marks.plan || decide (s.plan.busState = .fault) },
         plan := { s.plan with busState := .ok }, round := { r with busFree := stop + bit } }
     (∀ i, sclReleased i .high s = true ∧ sclReleased i .low s = decide (9 ≤ i) ∧ sdaReleased i s = true) ∧
       (s.round.restarting = true →
       exec (.busClearDone (.sdaHigh n)) s =
         .next
           { cleared { s.round with restarting := false } with
             plan := { s.plan with busState := .ok, roundState := .idle } }) ∧
       (s.round.restarting = false → s.round.clearFor = .start →
         exec (.busClearDone (.sdaHigh n)) s =
           .next
             { cleared
                 { s.round with
                   latchTime := hallTime { s with clk := stop + bit }
                   trigCommand := roundDiv s.groups[s.round.group].command 1024
                   trigLifeCycles := s.groups[s.round.group].lifeCycles
                   busStart := stop + bit
                   limitWrites := [] } with
               clk := stop + bit, plan := { s.plan with busState := .ok, roundState := .latch } }) ∧
       (s.round.restarting = false → s.round.clearFor = .latch → s.round.pods ≠ [] →
         exec (.busClearDone (.sdaHigh n)) s =
           .next
             { cleared { s.round with waitEnds := stop + 40 * s.hall.latchWaitUs } with
               plan := { s.plan with busState := .ok, roundState := .wait } }) ∧
       (s.round.restarting = false → s.round.clearFor = .latch → s.round.pods = [] →
         exec (.busClearDone (.sdaHigh n)) s = .next (completeRound false (cleared s.round))) ∧
       (s.round.restarting = false → s.round.clearFor = .pod → s.round.todo.tail ≠ [] →
         exec (.busClearDone (.sdaHigh n)) s =
           .next
             { cleared
                 { s.round with todo := s.round.todo.tail, busStart := stop + bit, limitWrites := [] } with
               plan := { s.plan with busState := .ok, roundState := .read } }) ∧
       (s.round.restarting = false → s.round.clearFor = .pod → s.round.todo.tail = [] →
         exec (.busClearDone (.sdaHigh n)) s =
           .next (completeRound false (cleared { s.round with todo := [] })))) ∧
    (∀ (result : BusClearEnd) (s : State), s.inReset = false → s.plan.roundState = .clear →
       ∀ clk : Nat,
         (result = .sdaLow ∧
               clk = max s.clk (s.round.busStart + 9 * (if s.hall.busSpeed = .kbit100 then 400 else 100))) ∨
             (result = .sclHeld ∧ clk = max s.clk (stretchEnd s)) →
           (s.round.restarting = true →
             exec (.busClearDone result) s =
               .next
                 { s with
                   clk := clk, marks := { s.marks with plan := s.marks.plan || decide (s.plan.busState = .ok) },
                   plan := { s.plan with busState := .fault, roundState := .idle },
                   round := { s.round with restarting := false } }) ∧
             (s.round.restarting = false →
               let missed := if s.round.clearFor = .pod then s.round.todo.tail else s.round.pods
               missed.Nodup →
               ∃ t, exec (.busClearDone result) s = .next t ∧
                 t = { s with
                       clk := clk, gauges := t.gauges, gpods := t.gpods, plan := t.plan, round := t.round,
                       rams := t.rams, groups := t.groups, limits := t.limits,
                       marks :=
                         { s.marks with
                           plan := true, gauge := t.marks.gauge, gpod := t.marks.gpod,
                           ram := t.marks.ram, group := t.marks.group, limit := t.marks.limit } } ∧
                 (∀ k : Fin 48,
                   t.marks.gauge[k] =
                     (s.marks.gauge[k] || decide (t.gauges[k].state ≠ s.gauges[k].state))) ∧
                 (∀ p : Fin 12,
                   t.marks.gpod[p] =
                     (s.marks.gpod[p] || decide (p ∈ missed ∧ s.gpods[p].consecutiveMisses = 0))) ∧
                 ((∀ p : Fin 12, p ∈ missed ∨ p ∈ s.round.pods → NoStrainLimit s p) → LimitsRest s t) ∧
                 t.plan =
                   { s.plan with
                     busState := .fault, roundState := .idle, aborted := true,
                     roundNumber :=
                       if s.plan.roundNumber < 4294967295 then s.plan.roundNumber + 1
                       else s.plan.roundNumber,
                     trigger := s.round.kind, podsRead := s.round.podsRead,
                     podsMissed := s.round.podsMissed + missed.length,
                     latchTime :=
                       if s.round.clearFor = .start then hallTime { s with clk := clk } else s.round.latchTime,
                     trigCommand :=
                       if s.round.clearFor = .start then roundDiv s.groups[s.round.group].command 1024
                       else s.round.trigCommand,
                     trigLifeCycles :=
                       if s.round.clearFor = .start then s.groups[s.round.group].lifeCycles
                       else s.round.trigLifeCycles,
                     latchAnswered := if s.round.clearFor = .start then false else s.round.latchAnswered } ∧
                 t.round =
                   { s.round with
                     latchTime := t.plan.latchTime, trigCommand := t.plan.trigCommand,
                     trigLifeCycles := t.plan.trigLifeCycles, latchAnswered := t.plan.latchAnswered,
                     podsMissed := t.plan.podsMissed,
                     restFlag := s.round.restFlag || decide (s.plan.mode = .cyclic) } ∧
                 
                 (∀ p : Fin 12,
                   t.gpods[p] =
                     if p ∈ missed then
                       { s.gpods[p] with
                         consecutiveMisses := satInc 255 s.gpods[p].consecutiveMisses
                         misses := satInc max32 s.gpods[p].misses
                         lastMiss := .fault }
                     else s.gpods[p]) ∧
                 ∀ k : Fin 48,
                   t.gauges[k] =
                     if podOf k ∈ missed ∧ s.gauges[k].enabled = true ∧
                         s.hall.staleLimit ≤ satInc 255 s.gpods[podOf k].consecutiveMisses ∧
                         s.gauges[k].state ≠ .disabled then
                       { s.gauges[k] with state := .stale }
                     else s.gauges[k]))

/-! ## Gauge records -/

/-- R46, R115: a scaled division gives the integer nearest to its exact quotient, a tie away from zero; the
coincidence window's rounds up. R80: the strain of a count is its rounded quotient and lies within ±1,250,000. R81,
R82, R83: what a good reading makes of an enabled gauge: flagged, captured as zero, or converted with the peaks
widened. -/
def Obligations.ReadingsConvertToStrain : Prop :=
  ((∀ (n : Int) (d : Nat), 0 < d →
       2 * |n - roundDiv n d * d| ≤ d ∧ (2 * |n - roundDiv n d * d| = d → |n| < |roundDiv n d * d|)) ∧
     ∀ n d : Nat, 0 < d → n ≤ ceilDiv n d * d ∧ ceilDiv n d * d < n + d) ∧
    (∀ (b : Bridge) (gf : Nat) (zero c : Int),
       let k : Int := match b with
         | .quarter => 4
         | .half => 2
         | .full => 1
       strainOf b gf zero c = roundDiv (k * (c - zero) * 10000000000) (1073741824 * gf) ∧
         (500 ≤ gf → gf ≤ 5000 → -8388607 ≤ zero → zero ≤ 8388607 → -8388608 ≤ c → c ≤ 8388607 →
           -1250000 ≤ strainOf b gf zero c ∧ strainOf b gf zero c ≤ 1250000)) ∧
    (∀ (x : Gauge) (c : Int) (flagged : Bool),
       (flagged = true → x.reading c flagged = { x with count := some c, state := .overrange }) ∧
         (flagged = false → x.zeroPending = true →
           x.reading c flagged =
             { x with
               count := some c
               zero := if c = -8388608 then -8388607 else if c < -8388607 then -8388607 else c
               strain := some { now := 0, peakMax := 0, peakMin := 0 }
               zeroPending := false
               state := .ok }) ∧
         (flagged = false → x.zeroPending = false →
           let e := strainOf x.bridge x.gfMilli x.zero c
           (x.strain = none →
             x.reading c flagged =
               { x with
                 count := some c, strain := some { now := e, peakMax := e, peakMin := e }, state := .ok }) ∧
             ∀ old : Strain, x.strain = some old →
               x.reading c flagged =
                 { x with
                   count := some c
                   strain :=
                     some
                       { now := e
                         peakMax := if old.peakMax < e then e else old.peakMax
                         peakMin := if e < old.peakMin then e else old.peakMin }
                   state := .ok }))

/-- R86: GAUGE_ZERO sets zero_pending of an enabled gauge, or of every enabled gauge, and changes nothing else; its
selector is checked first. R86, R87: PEAK_RESET takes the present strain as both peaks of an enabled gauge, or of
every enabled gauge; absent peaks stay absent; it sets no mark. -/
def Obligations.GaugeRequestsActOnEnabledGauges : Prop :=
  ((∀ (s : State) (k : Fin 48), Due (.gaugeZero (byte k.val)) s →
       (s.gauges[k].enabled = true →
         exec (.gaugeZero (byte k.val)) s =
           .next
             { s with
               gauges := s.gauges.set k { s.gauges[k] with zeroPending := true }
               port := answered ok s }) ∧
         (s.gauges[k].enabled = false → Refuses (.gaugeZero (byte k.val)) .wrongState s)) ∧
     (∀ s : State, Due (.gaugeZero 0xFF) s →
       ∃ t, exec (.gaugeZero 0xFF) s = .next t ∧
         t = { s with gauges := t.gauges, port := answered ok s } ∧
         ∀ k : Fin 48,
           t.gauges[k] =
             if s.gauges[k].enabled = true then { s.gauges[k] with zeroPending := true } else s.gauges[k]) ∧
     ∀ (s : State) (sel : Byte), Due (.gaugeZero sel) s → 48 ≤ sel.toNat → sel ≠ 0xFF →
       Refuses (.gaugeZero sel) .badKey s) ∧
    (let reset (x : Gauge) : Gauge :=
       match x.strain with
       | none => x
       | some e => { x with strain := some { now := e.now, peakMax := e.now, peakMin := e.now } }
     (∀ (s : State) (k : Fin 48), Due (.peakReset (byte k.val)) s →
         (s.gauges[k].enabled = true →
           exec (.peakReset (byte k.val)) s =
             .next { s with gauges := s.gauges.set k (reset s.gauges[k]), port := answered ok s }) ∧
           (s.gauges[k].enabled = false → Refuses (.peakReset (byte k.val)) .wrongState s)) ∧
       (∀ s : State, Due (.peakReset 0xFF) s →
         ∃ t, exec (.peakReset 0xFF) s = .next t ∧
           t = { s with gauges := t.gauges, port := answered ok s } ∧
           ∀ k : Fin 48,
             t.gauges[k] = if s.gauges[k].enabled = true then reset s.gauges[k] else s.gauges[k]) ∧
       ∀ (s : State) (sel : Byte), Due (.peakReset sel) s → 48 ≤ sel.toNat → sel ≠ 0xFF →
         Refuses (.peakReset sel) .badKey s)

/-- R122: POD_COUNTERS_CLEAR clears the counters of one pod or of all, a waiting slot hit carried into received and
accepted; its selector is checked first. -/
def Obligations.PodCountersAreCleared : Prop :=
  let cleared (a : APod) : APod :=
    { a with
      frameErrors := 0, podOverflows := 0, belowAmp := 0, paired := 0, unpaired := 0,
      received := if a.slot = none then 0 else 1, accepted := if a.slot = none then 0 else 1 }
  (∀ (s : State) (p : Fin 16), Due (.podCountersClear (byte p.val)) s →
      exec (.podCountersClear (byte p.val)) s =
        .next { s with apods := s.apods.set p (cleared s.apods[p]), port := answered ok s }) ∧
    (∀ s : State, Due (.podCountersClear 0xFF) s →
      ∃ t, exec (.podCountersClear 0xFF) s = .next t ∧
        t = { s with apods := t.apods, port := answered ok s } ∧
        ∀ p : Fin 16, t.apods[p] = cleared s.apods[p]) ∧
    ∀ (s : State) (sel : Byte), Due (.podCountersClear sel) s → 16 ≤ sel.toNat → sel ≠ 0xFF →
      Refuses (.podCountersClear sel) .badKey s

/-- R79, R85, R88, R89: an accepted WRITE of a GAUGE record enables it, disables it, or sets its conversion fields;
the last gauge of a pod to leave use ends the pod's run of misses; only the limits on this gauge can act beside. That
a WRITE which gives a DISABLED gauge its enabled NO again applies the other pairs is the model's choice (assumption
log 24). -/
def Obligations.GaugeWritesEnableAndDisable : Prop :=
  ∀ (c : Instr) (k : Fin 48) (items : List Byte) (pairs : List (Nat × Int)) (s : State),
    let x := s.gauges[k]
    let y := putAll Gauge.put pairs x
    let silent := ∀ (l : Fin 24) (z : Limit), s.limits[l] = some z →
      z.source ≠ .gaugeStrain ∨ z.sourceKey ≠ k.val
    IsGaugeWrite c k items → Passes c (.gauge k) items pairs s →
    (x.enabled = true ↔ x.state ≠ .disabled) →
    (carried 1 pairs = some 1 → x.enabled = true → Idles c s) ∧
      (carried 1 pairs = some 1 → x.enabled = false →
        ∃ t, exec c s = .next t ∧
          t = { s with
                gauges :=
                  s.gauges.set k
                    { y with
                      enabled := true, state := .waiting, count := none, strain := none,
                      zeroPending := false },
                rams := t.rams, groups := t.groups, limits := t.limits, port := answered ok s,
                marks :=
                  { s.marks with
                    gauge := s.marks.gauge.set k true, ram := t.marks.ram, group := t.marks.group,
                    limit := t.marks.limit } } ∧
          (silent → LimitsRest s t)) ∧
      (carried 1 pairs = some 0 → x.enabled = true →
        ∃ t, exec c s = .next t ∧
          t = { s with
                gauges :=
                  s.gauges.set k
                    { x with
                      enabled := false, state := .disabled, count := none, strain := none,
                      zeroPending := false },
                gpods :=
                  if ∃ i : Fin 4, gaugeOf (podOf k) i ≠ k ∧ s.gauges[gaugeOf (podOf k) i].enabled = true then
                    s.gpods
                  else s.gpods.set (podOf k) { s.gpods[podOf k] with consecutiveMisses := 0 },
                rams := t.rams, groups := t.groups, limits := t.limits, port := answered ok s,
                marks :=
                  { s.marks with
                    gauge := s.marks.gauge.set k true, ram := t.marks.ram, group := t.marks.group,
                    limit := t.marks.limit } } ∧
          (silent → LimitsRest s t)) ∧
      (x.enabled = false → carried 1 pairs ≠ some 1 →
        exec c s = .next { s with gauges := s.gauges.set k y, port := answered ok s })

/-! ## The acoustic line -/

/-- R102, R106, R108, R121: an accepted WRITE of an APOD record enables it, disables it with its slot hit counted
unpaired and a poll in flight no longer counted, or sets its position; a position of another enabled pod is refused.
That a WRITE which gives a DISABLED pod its enabled NO again applies its position is the model's choice (assumption
log 24). -/
def Obligations.APodWritesEnableAndDisable : Prop :=
  ∀ (c : Instr) (p : Fin 16) (items : List Byte) (pairs : List (Nat × Int)) (s : State),
    let x := s.apods[p]
    let y := putAll APod.put pairs x
    let stays := carried 1 pairs = some 1 ∨ (carried 1 pairs = none ∧ x.enabled = true)
    let free := ∀ q : Fin 16, q ≠ p → s.apods[q].enabled = true → s.apods[q].positionMm ≠ y.positionMm
    IsAPodWrite c p items → Passes c (.apod p) items pairs s →
    (x.enabled = true ↔ x.state ≠ .disabled) →
    (stays → ¬free →
      exec c s = .next { s with port := answered (refuseAt .badValue pairs.length) s }) ∧
      (carried 1 pairs = some 1 → free → x.enabled = true → Idles c s) ∧
      (carried 1 pairs = some 1 → free → x.enabled = false →
        exec c s =
          .next
            { s with
              apods := s.apods.set p { y with enabled := true, state := .ok, consecutiveFails := 0 }
              marks := { s.marks with apod := s.marks.apod.set p true }
              port := answered ok s }) ∧
      (carried 1 pairs = some 0 → x.enabled = true →
        exec c s =
          .next
            { s with
              apods :=
                s.apods.set p
                  { x with
                    enabled := false, state := .disabled, consecutiveFails := 0, slot := none,
                    unpaired := if x.slot = none then x.unpaired else satInc max32 x.unpaired }
              line :=
                { s.line with
                  frame :=
                    match s.line.frame with
                    | .poll q began counted => .poll q began (if q = p then false else counted)
                    | f => f }
              marks := { s.marks with apod := s.marks.apod.set p true }
              port := answered ok s }) ∧
      (x.enabled = false → carried 1 pairs ≠ some 1 →
        exec c s = .next { s with apods := s.apods.set p y, port := answered ok s })

/-- R96, R98: the choice of the pod that a slot without a TIME frame polls: the sweep's next pod, else the
round-robin's, else an empty slot. R93, R95, R96, R97, R104, R109: a slot opens at its time, or 80 µs after a RESTART
whatever the line did (the model's choice, assumption logs 13 and 15), with the due TIME frame or a poll, held back by
a dominant line; a held frame begins as it stands, a POLL held back by a request pulse chosen again (and, DEDUCED in
log 7, one whose pod has been disabled), although a TIME frame is due meanwhile (log 20), and if it finds no pod
enabled an empty slot at the present clock (DESIGN CHOICE, log 29); a STUCK line opens no slot. R95, R96, R97, R101,
R120: a TIME frame falls due once for each moment at which hall time reaches a multiple of 100,000 µs; the end of a
frame fixes the next slot and expires the slot hits that are too old. A quiet wait ends at its earliest (assumption
log 13). -/
def Obligations.SlotsOpenAndFramesEnd : Prop :=
  (∀ (dominant : Bool) (s : State),
     let swept (q : Fin 16) := ∃ last, s.line.sweep = .on last ∧ LowestEnabled s last q
     let unswept := s.line.sweep = .off ∨ ∃ last, s.line.sweep = .on last ∧ NoneEnabled s last
     let frame (q : Fin 16) : LineFrame :=
       if dominant then .held (.poll q s.line.rr) else .poll q s.clk true
     (∀ q, swept q →
       openPollSlot dominant s =
         { s with line := { s.line with sweep := .on (some q), frame := frame q } }) ∧
       (∀ q, unswept →
         LowestEnabled s (some s.line.rr) q ∨ (NoneEnabled s (some s.line.rr) ∧ LowestEnabled s none q) →
         openPollSlot dominant s =
           { s with line := { s.line with sweep := .off, rr := q, frame := frame q } }) ∧
       (NoneEnabled s none →
         openPollSlot dominant s = frameEnd s.clk { s with line := { s.line with sweep := .off } })) ∧
    (∀ (dominant : Bool) (s : State), s.inReset = false →
       (∀ opens : Nat, s.crackset.lineState = .ok →
         (s.line.frame = .idle ∧ opens = max s.clk s.line.nextSlot) ∨
           (∃ since, s.line.frame = .settling since ∧ opens = max s.clk (since + 3200)) →
         let t : State := { s with clk := opens, line := { s.line with frame := .idle } }
         (s.line.timeDue = false → exec (.slotOpen dominant) s = .next (openPollSlot dominant t)) ∧
           (s.line.timeDue = true → dominant = false →
             exec (.slotOpen dominant) s =
               .next { t with line := { s.line with frame := .time opens, timeDue := false } }) ∧
           (s.line.timeDue = true → dominant = true →
             exec (.slotOpen dominant) s = .next { t with line := { s.line with frame := .held .time } })) ∧
         (s.crackset.lineState = .stuck → exec (.slotOpen dominant) s = .next s) ∧
         (s.line.frame = .held .time →
           exec .heldFrameBegin s =
             .next { s with line := { s.line with frame := .time s.clk, timeDue := false } }) ∧
         (∀ q before, s.line.frame = .held (.poll q before) → s.apods[q].enabled = true →
           exec .heldFrameBegin s = .next { s with line := { s.line with frame := .poll q s.clk true } }) ∧
         (∀ q before, s.line.frame = .held (.poll q before) → s.apods[q].enabled = false →
           exec .heldFrameBegin s = .next (openPollSlot false { s with line := { s.line with rr := before } })) ∧
         (s.line.frame = .held .again → exec .heldFrameBegin s = .next (openPollSlot false s))) ∧
    ((∀ s : State, s.inReset = false →
         ∃ next : Nat,
           exec .timeFrameDue s =
             .next
               { s with
                 clk := max s.clk (40 * s.line.nextTime)
                 line := { s.line with timeDue := true, nextTime := next } } ∧
           s.line.nextTime < next ∧ next % 4294967296 % 100000 = 0 ∧
           ∀ m, s.line.nextTime < m → m < next → m % 4294967296 % 100000 ≠ 0) ∧
       (∀ (began : Nat) (s : State),
         let t := frameEnd began s
         t = { s with
               apods := t.apods,
               line :=
                 { s.line with
                   frame := .idle
                   nextSlot := max (began + 40 * s.crackset.pollIntervalUs) (s.clk + 800) } } ∧
           ∀ p : Fin 16,
             t.apods[p] =
               match s.apods[p].slot with
               | none => s.apods[p]
               | some h =>
                 if s.crackset.pairHoldUs < (hallTime s - h.time).toInt then
                   { s.apods[p] with slot := none, unpaired := satInc max32 s.apods[p].unpaired }
                 else s.apods[p]) ∧
       (∀ (began : Nat) (s : State), s.inReset = false → s.line.frame = .time began →
         exec .timeFrameEnd s = .next (frameEnd began { s with clk := max s.clk (began + 8000) })) ∧
       ∀ (began since : Nat) (s : State), s.inReset = false → s.line.frame = .quiet began since →
         exec .quietWaitEnd s = .next (frameEnd began { s with clk := max s.clk (since + 3200) }))

/-- R91, R94, R95, R99: a byte goes over the line as a dominant start bit, eight data bits, least significant first,
and a recessive stop bit, at 4 µs a bit; the receiver discards a glitch, takes a byte, fails at a dominant stop bit or
a hit count of 7, and completes the reply at byte 5h + 2; after an outcome it takes no more. ALINE is dominant exactly
in the 0 bits of the frame that the LF832 sends. -/
def Obligations.BytesGoOverTheLineBitByBit : Prop :=
  (∀ b : Byte,
      (lineBits b).getLsbD 0 = false ∧ (∀ i, i < 8 → (lineBits b).getLsbD (i + 1) = b.getLsbD i) ∧
        (lineBits b).getLsbD 9 = true) ∧
    receive [] = .waiting [] ∧
    (∀ (falls : List LineFall) (bytes : List Byte) (f : LineFall), receive falls = .waiting bytes →
      let taken := bytes ++ [f.extractLsb' 1 8]
      let h := (taken.headD 0).toNat % 8
      (f.getLsbD 0 = true → receive (falls ++ [f]) = .waiting bytes) ∧
        (f.getLsbD 0 = false → f.getLsbD 9 = false → receive (falls ++ [f]) = .failed taken.length) ∧
        (f.getLsbD 0 = false → f.getLsbD 9 = true → h = 7 → receive (falls ++ [f]) = .failed taken.length) ∧
        (f.getLsbD 0 = false → f.getLsbD 9 = true → h ≠ 7 → taken.length = 5 * h + 2 →
          receive (falls ++ [f]) = .complete taken) ∧
        (f.getLsbD 0 = false → f.getLsbD 9 = true → h ≠ 7 → taken.length ≠ 5 * h + 2 →
          receive (falls ++ [f]) = .waiting taken)) ∧
    (∀ (falls more : List LineFall),
      (∀ n, receive falls = .failed n → receive (falls ++ more) = .failed n) ∧
        ∀ bytes, receive falls = .complete bytes → receive (falls ++ more) = .complete bytes) ∧
    (∀ (count : Byte) (rest : List Byte), count.toNat % 8 ≤ 6 → rest.length = 5 * (count.toNat % 8) + 1 →
      receive ((count :: rest).map lineBits) = .complete (count :: rest)) ∧
    ∀ s : State, s.inReset = false →
      (∀ p began counted, s.line.frame = .poll p began counted →
        (∀ j, j < 10 → began + 160 * j ≤ s.clk → s.clk < began + 160 * (j + 1) →
          (alineDominant s = true ↔ (lineBits (byte (0xA0 + p.val))).getLsbD j = false)) ∧
          (began + 1600 ≤ s.clk → alineDominant s = false)) ∧
        (∀ began, s.line.frame = .time began →
          let time : Word := BitVec.ofNat 32 (began / 40)
          let sent : List Byte :=
            [0xB0, time.extractLsb' 24 8, time.extractLsb' 16 8, time.extractLsb' 8 8, time.extractLsb' 0 8]
          (∀ i j, i < 5 → j < 10 → began + 1600 * i + 160 * j ≤ s.clk →
            s.clk < began + 1600 * i + 160 * (j + 1) →
            (alineDominant s = true ↔ (lineBits (sent.getD i 0)).getLsbD j = false)) ∧
            (began + 8000 ≤ s.clk → alineDominant s = false)) ∧
        ((∀ p began counted, s.line.frame ≠ .poll p began counted) →
          (∀ began, s.line.frame ≠ .time began) → alineDominant s = false)

/-- R92, R99, R101, R102, R108: how a poll's outcome is counted, and the failed outcomes: SILENT and GAP end the
frame, FRAME_ERROR and CONTENTION begin its quiet wait. GAP and FRAME_ERROR come at the earliest moment, after a reply
sent at once and without gaps (the model's choice, assumption log 13); CONTENTION at the middle of the next bit (log
13); after the last bit's it changes nothing (log 9). R92, R100, R101, R102: a complete reply, written out as its
count byte, its hits and its check byte, is judged in the order of R100; a GOOD reply is counted and its hits handed
on in order before the frame ends, at the earliest moment, as if sent at once and without gaps (the model's choice,
assumption log 13). A TIME frame's contention, at its next bit's middle (log 13), charges no pod; after the last bit's
there is none (log 9). -/
def Obligations.PollOutcomesAreCounted : Prop :=
  ((∀ (p : Fin 16) (counted : Bool) (o : PollOutcome) (s : State),
       let x := s.apods[p]
       let fails := if x.consecutiveFails < 255 then x.consecutiveFails + 1 else x.consecutiveFails
       (counted = false ∨ x.enabled = false → pollOutcome p counted o s = s) ∧
         (counted = true → x.enabled = true → o ≠ .none → o ≠ .good →
           ∃ state : APodState, (state = if 8 ≤ fails then .lost else x.state) ∧
             pollOutcome p counted o s =
               { s with
                 apods :=
                   s.apods.set p
                     { x with
                       consecutiveFails := fails
                       state := state
                       lastOutcome := o
                       frameErrors :=
                         if o = .gap ∨ o = .frameError ∨ o = .badCheck then satInc max32 x.frameErrors
                         else x.frameErrors }
                 marks :=
                   { s.marks with
                     apod := s.marks.apod.set p (s.marks.apod[p] || decide (state ≠ x.state)) } }) ∧
         (counted = true → x.enabled = true → o = .good →
           pollOutcome p counted o s =
             { s with
               apods := s.apods.set p { x with consecutiveFails := 0, state := .ok, lastOutcome := .good }
               marks :=
                 { s.marks with
                   apod := s.marks.apod.set p (s.marks.apod[p] || decide (x.state ≠ .ok)) } })) ∧
     ∀ (p : Fin 16) (began : Nat) (counted : Bool) (falls : List LineFall) (s : State), s.inReset = false →
       s.line.frame = .poll p began counted →
       (receive falls = .waiting [] →
         exec (.replyTimeout falls) s =
           .next (frameEnd began (pollOutcome p counted .silent { s with clk := max s.clk (began + 4000) }))) ∧
         (∀ bytes, receive falls = .waiting bytes → bytes ≠ [] →
           exec (.replyTimeout falls) s =
             .next
               (frameEnd began
                 (pollOutcome p counted .gap
                   { s with clk := max s.clk (began + 40 * (120 + 40 * bytes.length)) }))) ∧
         (∀ n, receive falls = .failed n →
           let t := pollOutcome p counted .frameError { s with clk := max s.clk (began + 40 * (38 + 40 * n)) }
           let u : State := { t with line := { t.line with frame := .quiet began t.clk } }
           exec (.replyTimeout falls) s = .next u ∧ exec (.replyReceived falls) s = .next u) ∧
         (∀ t, t = pollOutcome p counted .frameError { s with clk := max s.clk (began + 40 * 78) } →
           exec .replyFrameError s = .next { t with line := { t.line with frame := .quiet began t.clk } }) ∧
         (began + 40 * 38 < s.clk → exec .contention s = .next s) ∧
         ∀ bit : Nat, bit < 10 → s.clk ≤ began + 40 * (4 * bit + 2) →
           bit = 0 ∨ began + 40 * (4 * bit - 2) < s.clk →
           let t := pollOutcome p counted .contention
             { s with
               clk := began + 40 * (4 * bit + 2)
               crackset :=
                 { s.crackset with contentionCount := satInc max32 s.crackset.contentionCount } }
           exec .contention s = .next { t with line := { t.line with frame := .quiet began t.clk } }) ∧
    ((∀ (p : Fin 16) (began : Nat) (counted : Bool) (s : State) (count check : Byte) (hits : List (Word × Byte))
         (falls : List LineFall),
         let body :=
           count :: hits.flatMap fun h =>
             [h.1.extractLsb' 24 8, h.1.extractLsb' 16 8, h.1.extractLsb' 8 8, h.1.extractLsb' 0 8, h.2]
         let t : State := { s with clk := max s.clk (began + 40 * (40 + 40 * (body.length + 1))) }
         s.inReset = false → s.line.frame = .poll p began counted →
         receive falls = .complete (body ++ [check]) → count.toNat % 8 = hits.length →
         (crc8 body ≠ check →
           let u := pollOutcome p counted .badCheck t
           exec (.replyReceived falls) s =
             .next { u with line := { u.line with frame := .quiet began u.clk } }) ∧
           (crc8 body = check → (∃ h ∈ hits, 100 < h.2.toNat) →
             let u := pollOutcome p counted .frameError t
             exec (.replyReceived falls) s =
               .next { u with line := { u.line with frame := .quiet began u.clk } }) ∧
           (crc8 body = check → (∀ h ∈ hits, h.2.toNat ≤ 100) →
             (counted = false ∨ s.apods[p].enabled = false →
               exec (.replyReceived falls) s = .next (frameEnd began t)) ∧
               (counted = true → s.apods[p].enabled = true →
                 let u := pollOutcome p true .good t
                 let v : State :=
                   { u with
                     apods :=
                       if count.toNat < 128 then u.apods
                       else
                         u.apods.set p
                           { u.apods[p] with podOverflows := satInc max32 u.apods[p].podOverflows } }
                 exec (.replyReceived falls) s =
                   .next
                     (frameEnd began
                       (hits.foldl (fun w h => hitArrival p { time := h.1, amp := h.2.toNat } w) v))))) ∧
       ∀ (began : Nat) (s : State), s.inReset = false → s.line.frame = .time began →
         (began + 40 * 198 < s.clk → exec .contention s = .next s) ∧
           ∀ bit : Nat, bit < 50 → s.clk ≤ began + 40 * (4 * bit + 2) →
             bit = 0 ∨ began + 40 * (4 * bit - 2) < s.clk →
             exec .contention s =
               .next
                 { s with
                   clk := began + 40 * (4 * bit + 2)
                   crackset := { s.crackset with contentionCount := satInc max32 s.crackset.contentionCount }
                   line := { s.line with frame := .quiet began (began + 40 * (4 * bit + 2)) } })

/-- R93, R103, R104, R108: a request pulse on the idle line starts a sweep, which chooses a held POLL again; a line
stuck for 5 ms ends the frame in flight uncounted; after 10 ms of recessive line, the earliest moment (assumption log
13), the first slot opens at once. A level that began inside a frame and ends on the idle line is judged by its given
length alone (DESIGN CHOICE, log 30). A pulse while the line settles after a RESTART counts (log 15); a pulse off the
idle line, and LINE_STUCK on a STUCK line, change nothing (log 9). -/
def Obligations.PulsesAndStuckLines : Prop :=
  ∀ s : State, s.inReset = false →
    (∀ usec : Nat, 100 ≤ usec → usec < 5000 → s.crackset.lineState = .ok → lineIdle s = true →
      (s.line.sweep ≠ .off → exec (.requestPulse usec) s = .next s) ∧
        (∀ q before, s.line.sweep = .off → s.line.frame = .held (.poll q before) →
          exec (.requestPulse usec) s =
            .next
              { s with
                line := { s.line with sweep := .on none, rr := before, frame := .held .again } }) ∧
        (s.line.sweep = .off → (∀ q before, s.line.frame ≠ .held (.poll q before)) →
          exec (.requestPulse usec) s = .next { s with line := { s.line with sweep := .on none } })) ∧
      (∀ usec : Nat, s.crackset.lineState = .stuck ∨ lineIdle s = false →
        exec (.requestPulse usec) s = .next s) ∧
      (s.crackset.lineState = .ok →
        ∃ t, exec .lineStuck s = .next t ∧
          t = { s with
                crackset := { s.crackset with lineState := .stuck },
                marks := { s.marks with crackset := true },
                line :=
                  { s.line with
                    sweep := .off, frame := .idle, stuckSince := s.clk,
                    rr :=
                      match s.line.frame with
                      | .held (.poll _ before) => before
                      | _ => s.line.rr },
                apods := t.apods } ∧
          (lineIdle s = true → t.apods = s.apods) ∧
          (lineIdle s = false → t.apods = (frameEndNotice s).apods)) ∧
      (s.crackset.lineState = .stuck →
        exec .lineStuck s = .next s ∧
          let clk := max s.clk (s.line.stuckSince + 400000)
          let t : State :=
            { s with
              clk := clk
              crackset := { s.crackset with lineState := .ok }
              marks := { s.marks with crackset := true }
              line := { s.line with nextSlot := clk } }
          (s.line.timeDue = true →
            exec .lineRecovered s =
              .next { t with line := { t.line with frame := .time clk, timeDue := false } }) ∧
            (s.line.timeDue = false → exec .lineRecovered s = .next (openPollSlot false t)))

/-! ## Hit location and the crack table -/

/-- R112 to R117, R119: a hit arrival is filtered, tested for age, paired with the nearest coincident neighbour's slot
hit, or held in its own pod's slot. R118, R119, R126: a located position is the rounded formula limited to the two
pods' positions; a group's zone contains a position when it lies between its ends, and the group of lowest index
counts. -/
def Obligations.HitsPairAndAreLocated : Prop :=
  (∀ (p : Fin 16) (h : Hit) (s : State), PodLaw s → s.apods[p].enabled = true →
     let t := hitArrival p h s
     let x := s.apods[p]
     let passed : APod := { x with received := satInc max32 x.received, accepted := satInc max32 x.accepted }
     let dropped (a : APod) : APod := { a with slot := none, unpaired := satInc max32 a.unpaired }
     let apart (k : Hit) : Nat := (h.time - k.time).toInt.natAbs
     let window (q : Fin 16) : Nat :=
       (((x.positionMm : Int) - s.apods[q].positionMm).natAbs * 1000 + s.crackset.waveSpeed - 1) /
           s.crackset.waveSpeed + s.crackset.guardUs
     let neighbour (q : Fin 16) := LowerNeighbour s p q ∨ UpperNeighbour s p q
     let offers (q : Fin 16) (k : Hit) :=
       neighbour q ∧ s.apods[q].slot = some k ∧ ¬TooOld s k.time ∧ apart k ≤ window q
     let expires (q : Fin 16) := neighbour q ∧ ∃ k, s.apods[q].slot = some k ∧ TooOld s k.time
     (h.amp < s.crackset.minAmpDb →
       t = { s with
             apods :=
               s.apods.set p
                 { x with
                   received := satInc max32 x.received, belowAmp := satInc max32 x.belowAmp } }) ∧
       (s.crackset.minAmpDb ≤ h.amp → TooOld s h.time →
         t = { s with apods := s.apods.set p { passed with unpaired := satInc max32 x.unpaired } }) ∧
       (s.crackset.minAmpDb ≤ h.amp → ¬TooOld s h.time → (∀ q k, ¬offers q k) →
         t = { s with apods := t.apods } ∧
           t.apods[p] =
             { passed with
               slot := some h
               unpaired := if x.slot = none then x.unpaired else satInc max32 x.unpaired } ∧
           ∀ q, q ≠ p →
             (expires q → t.apods[q] = dropped s.apods[q]) ∧ (¬expires q → t.apods[q] = s.apods[q])) ∧
       ∀ q k, s.crackset.minAmpDb ≤ h.amp → ¬TooOld s h.time → offers q k →
         (∀ q' k', offers q' k' → q' ≠ q →
           apart k < apart k' ∨ (apart k = apart k' ∧ LowerNeighbour s p q)) →
         t.apods[p] = { passed with paired := satInc max32 x.paired } ∧
           t.apods[q] =
             { s.apods[q] with slot := none, paired := satInc max32 s.apods[q].paired } ∧
           (∀ q', q' ≠ p → q' ≠ q →
             (expires q' → t.apods[q'] = dropped s.apods[q']) ∧
               (¬expires q' → t.apods[q'] = s.apods[q'])) ∧
           ∃ place : Int,
             (LowerNeighbour s p q →
               place =
                 locate s.apods[q].positionMm x.positionMm s.crackset.waveSpeed k.time h.time) ∧
               (UpperNeighbour s p q →
                 place =
                   locate x.positionMm s.apods[q].positionMm s.crackset.waveSpeed h.time k.time) ∧
               t = locatedEvent place (max h.amp k.amp) (lifeOf (zoneOf place s) s) { s with apods := t.apods }) ∧
    ((∀ (xa xb v : Nat) (ta tb : Word), xa ≤ xb →
         let x := roundDiv (1000 * (xa + xb) + v * (ta - tb).toInt) 2000
         locate xa xb v ta tb = max (xa : Int) (min (xb : Int) x) ∧ (xa : Int) ≤ locate xa xb v ta tb ∧
           locate xa xb v ta tb ≤ xb) ∧
       ∀ (x : Int) (s : State),
         let contains (g : Fin 4) := (s.groups[g].zoneLo : Int) ≤ x ∧ x ≤ s.groups[g].zoneHi
         (∀ g : Fin 4, zoneOf x s = some g ↔ contains g ∧ ∀ g' : Fin 4, g' < g → ¬contains g') ∧
           (zoneOf x s = none ↔ ∀ g : Fin 4, ¬contains g))

/-- R124, R127 to R131, R142, R143: a located event joins the nearest record in reach, else creates one in the lowest
FREE slot, else is lost; only the crack limits of the zones concerned can act beside. R132 to R135, R142, R143: a WRAP
closes the window of its group's records exactly at a counted multiple of window_cycles; each record is judged on the
events of its window; a slot is marked exactly when it is dropped or its state or acknowledged changes, and only then
is a zone change notice handed, for that group (that a change of counts alone hands none is DEDUCED in assumption log
23). -/
def Obligations.EventsGatherAndWindowsJudge : Prop :=
  (∀ (x : Int) (amp cycle : Nat) (s : State),
     let t := locatedEvent x amp cycle s
     let dist (y : Crack) : Nat := (x - y.xMm).natAbs
     let silent (refs : List (Option (Fin 4))) := ∀ g : Fin 4, some g ∈ refs → NoCrackLimit s g
     (∀ (c : Fin 32) (y : Crack), s.cracks[c] = some y → dist y ≤ s.crackset.radiusMm →
       (∀ (d : Fin 32) (z : Crack), s.cracks[d] = some z →
         dist y < dist z ∨ (dist y = dist z ∧ c ≤ d)) →
       let events := if y.events < 65535 then y.events + 1 else y.events
       let xq := y.xq + roundDiv (16 * x - y.xq) (min events 256)
       let ref := zoneOf (roundDiv xq 16) s
       let confirmed := y.state = .suspect ∧ s.crackset.confirmCount ≤ events
       t = { s with
             cracks :=
               s.cracks.set c
                 (some
                   { y with
                     events := events, xq := xq, refGroup := ref, xLo := min y.xLo x, xHi := max y.xHi x,
                     peakAmp := max y.peakAmp amp,
                     windowEvents :=
                       if y.windowEvents < 65535 then y.windowEvents + 1 else y.windowEvents,
                     quietCount := 0,
                     state := if confirmed then .confirmed else y.state,
                     confirmCycle :=
                       if confirmed then
                         some (match ref with
                           | some g => s.groups[g].lifeCycles
                           | none => 0)
                       else y.confirmCycle }),
             rams := t.rams, groups := t.groups, limits := t.limits,
             marks :=
               { s.marks with
                 crack := if confirmed then s.marks.crack.set c true else s.marks.crack,
                 ram := t.marks.ram, group := t.marks.group, limit := t.marks.limit } } ∧
         (silent [y.refGroup, ref] → LimitsRest s t)) ∧
       ((∀ (d : Fin 32) (z : Crack), s.cracks[d] = some z → s.crackset.radiusMm < dist z) →
         (∀ c : Fin 32, s.cracks[c] = none → (∀ d : Fin 32, d < c → s.cracks[d] ≠ none) →
           t = { s with
                 cracks :=
                   s.cracks.set c
                     (some
                       { state := .suspect, xq := 16 * x, xLo := x, xHi := x, events := 1,
                         windowEvents := 1, quietCount := 0, peakAmp := amp, refGroup := zoneOf x s,
                         firstCycle := cycle, confirmCycle := none, width := none,
                         acknowledged := false }),
                 rams := t.rams, groups := t.groups, limits := t.limits,
                 marks :=
                   { s.marks with
                     crack := s.marks.crack.set c true, ram := t.marks.ram, group := t.marks.group,
                     limit := t.marks.limit } } ∧
             (silent [zoneOf x s] → LimitsRest s t)) ∧
           ((∀ d : Fin 32, s.cracks[d] ≠ none) →
             t = { s with
                   crackset :=
                     { s.crackset with
                       eventsLost :=
                         if s.crackset.eventsLost < 4294967295 then s.crackset.eventsLost + 1
                         else s.crackset.eventsLost }
                   marks :=
                     { s.marks with
                       crackset := s.marks.crackset || decide (s.crackset.eventsLost = 0) } }))) ∧
    ((∀ (g : Fin 4) (counted : Bool) (s : State),
         (counted = true ∧ s.groups[g].lifeCycles % s.crackset.windowCycles = 0 →
           wrapAtCracks g counted s = closeWindow g s) ∧
           (¬(counted = true ∧ s.groups[g].lifeCycles % s.crackset.windowCycles = 0) →
             wrapAtCracks g counted s = s)) ∧
       ∀ (g : Fin 4) (s : State),
         let t := closeWindow g s
         t = { s with
               cracks := t.cracks, rams := t.rams, groups := t.groups, limits := t.limits,
                 marks :=
                   { s.marks with
                     crack := t.marks.crack, ram := t.marks.ram, group := t.marks.group,
                     limit := t.marks.limit } } ∧
           (∀ c : Fin 32, s.cracks[c] = none → t.cracks[c] = none) ∧
           (∀ c : Fin 32,
             t.marks.crack[c] =
               (s.marks.crack[c] ||
                 decide ((t.cracks[c]).map (fun y => (y.state, y.acknowledged)) ≠
                   (s.cracks[c]).map (fun y => (y.state, y.acknowledged))))) ∧
           ((∀ c : Fin 32,
               (t.cracks[c]).map (fun y => (y.state, y.acknowledged)) =
                 (s.cracks[c]).map (fun y => (y.state, y.acknowledged))) ∨
             NoCrackLimit s g →
               LimitsRest s t) ∧
           ∀ (c : Fin 32) (y : Crack), s.cracks[c] = some y →
             let quiet := if y.quietCount < 255 then y.quietCount + 1 else y.quietCount
             (y.refGroup ≠ some g → t.cracks[c] = some y) ∧
               (y.refGroup = some g →
                 (y.state = .suspect → 0 < y.windowEvents →
                   t.cracks[c] = some { y with quietCount := 0, windowEvents := 0 }) ∧
                   (y.state = .suspect → y.windowEvents = 0 →
                     (s.crackset.suspectWindows ≤ quiet → y.acknowledged = false →
                       t.cracks[c] = none) ∧
                       (quiet < s.crackset.suspectWindows ∨ y.acknowledged = true →
                         t.cracks[c] = some { y with quietCount := quiet })) ∧
                   (y.state ≠ .suspect → s.crackset.activeEvents ≤ y.windowEvents →
                     t.cracks[c] =
                       some
                         { y with
                           state := .active, quietCount := 0, windowEvents := 0,
                           acknowledged := decide (y.state = .active) && y.acknowledged }) ∧
                   (y.state ≠ .suspect → 0 < y.windowEvents → y.windowEvents < s.crackset.activeEvents →
                     t.cracks[c] =
                       some { y with state := .confirmed, quietCount := 0, windowEvents := 0 }) ∧
                   (y.state ≠ .suspect → y.windowEvents = 0 → 0 < s.crackset.activeEvents →
                     t.cracks[c] =
                       some
                         { y with
                           state := if s.crackset.quietWindows ≤ quiet then .quiet else y.state
                           quietCount := quiet })))

/-- R136: FIND_CRACK answers with the nearest live record, of lowest slot among equals, and changes nothing. R136 to
R139, R142, R143: CRACK_ACK, CRACK_WIDTH and CRACK_RETIRE of a live record; a FREE slot or a key above 31 is refused,
a width above 10,000 too; only the crack limits of the record's zone can act beside. R140 to R143: CRACK_MERGE of two
different live records, in either order of its keys, by Table 8-6 into the lower slot; both slots are marked and no
other; only the crack limits of the two old zones and the new one can act beside. -/
def Obligations.CrackRequestsFindChangeAndMerge : Prop :=
  (∀ (x : BitVec 32) (s : State), Due (.findCrack x) s →
     let dist (y : Crack) : Nat := ((x.toNat : Int) - y.xMm).natAbs
     (250000 < x.toNat → Refuses (.findCrack x) .badValue s) ∧
       (x.toNat ≤ 250000 → (∀ c : Fin 32, s.cracks[c] = none) → Refuses (.findCrack x) .notFound s) ∧
       ∀ (c : Fin 32) (y : Crack), x.toNat ≤ 250000 → s.cracks[c] = some y →
         (∀ (d : Fin 32) (z : Crack), s.cracks[d] = some z →
           dist y < dist z ∨ (dist y = dist z ∧ c ≤ d)) →
         exec (.findCrack x) s =
           .next
             { s with
               port :=
                 answered
                   (okWith
                     (byte c.val :: (encodeValue 4 (roundDiv y.xq 16) ++
                       [match y.state with
                         | .suspect => 1
                         | .confirmed => 2
                         | .active => 3
                         | .quiet => 4]))) s }) ∧
    ((∀ (c : Instr) (slot : Byte) (s : State),
         (c = .crackAck slot ∨ c = .crackRetire slot ∨ ∃ w, c = .crackWidth slot w) → Due c s →
         (32 ≤ slot.toNat ∨ ∃ i : Fin 32, slot = byte i.val ∧ s.cracks[i] = none) → Refuses c .badKey s) ∧
       (∀ (i : Fin 32) (y : Crack) (w : BitVec 16) (s : State), Due (.crackWidth (byte i.val) w) s →
         s.cracks[i] = some y → 10000 < w.toNat → Refuses (.crackWidth (byte i.val) w) .badValue s) ∧
       (∀ (i : Fin 32) (y : Crack) (s : State), Due (.crackAck (byte i.val)) s → s.cracks[i] = some y →
         y.acknowledged = true → Idles (.crackAck (byte i.val)) s) ∧
       ∀ (c : Instr) (i : Fin 32) (y : Crack) (s : State) (z : Option Crack) (marked : Bool), Due c s →
         s.cracks[i] = some y →
         (c = .crackAck (byte i.val) ∧ y.acknowledged = false ∧ z = some { y with acknowledged := true } ∧
             marked = true) ∨
           (c = .crackRetire (byte i.val) ∧ z = none ∧ marked = true) ∨
           (∃ w : BitVec 16, c = .crackWidth (byte i.val) w ∧ w.toNat ≤ 10000 ∧ marked = false ∧
             z =
               some
                 { y with
                   width :=
                     some
                       { width := w.toNat
                         inspectedCycle :=
                           match y.refGroup with
                           | some g => s.groups[g].lifeCycles
                           | none => 0 } }) →
         ∃ t, exec c s = .next t ∧
           t = { s with
                 cracks := s.cracks.set i z, rams := t.rams, groups := t.groups, limits := t.limits,
                 port := answered ok s,
                 marks :=
                   { s.marks with
                     crack := if marked then s.marks.crack.set i true else s.marks.crack,
                     ram := t.marks.ram, group := t.marks.group, limit := t.marks.limit } } ∧
           ((∀ g : Fin 4, y.refGroup = some g → NoCrackLimit s g) → LimitsRest s t)) ∧
    ((∀ (a b : Byte) (s : State), Due (.crackMerge a b) s →
         (a = b ∨ 32 ≤ a.toNat ∨ 32 ≤ b.toNat ∨
           (∃ i : Fin 32, (a = byte i.val ∨ b = byte i.val) ∧ s.cracks[i] = none)) →
         Refuses (.crackMerge a b) .badKey s) ∧
       ∀ (i j : Fin 32) (x y : Crack) (a b : Byte) (s : State), i < j → s.cracks[i] = some x →
         s.cracks[j] = some y →
         (a = byte i.val ∧ b = byte j.val) ∨ (a = byte j.val ∧ b = byte i.val) → Due (.crackMerge a b) s →
         let xq := roundDiv (x.xq * x.events + y.xq * y.events) (x.events + y.events)
         let ref := zoneOf (roundDiv xq 16) s
         let rank (c : CrackState) : Nat :=
           match c with
           | .suspect => 0
           | .quiet => 1
           | .confirmed => 2
           | .active => 3
         let state := if rank x.state < rank y.state then y.state else x.state
         let events := min 65535 (x.events + y.events)
         let confirmed := state = .suspect ∧ s.crackset.confirmCount ≤ events
         ∃ t z, exec (.crackMerge a b) s = .next t ∧
           t = { s with
                 cracks := (s.cracks.set i (some z)).set j none, rams := t.rams, groups := t.groups,
                 limits := t.limits, port := answered ok s,
                 marks :=
                   { s.marks with
                     crack := (s.marks.crack.set i true).set j true, ram := t.marks.ram,
                     group := t.marks.group, limit := t.marks.limit } } ∧
           ((∀ g : Fin 4, x.refGroup = some g ∨ y.refGroup = some g ∨ ref = some g → NoCrackLimit s g) →
             LimitsRest s t) ∧
           z.state = (if confirmed then .confirmed else state) ∧ z.xq = xq ∧ z.xLo = min x.xLo y.xLo ∧
           z.xHi = max x.xHi y.xHi ∧ z.events = events ∧
           z.windowEvents = min 65535 (x.windowEvents + y.windowEvents) ∧
           z.quietCount = min x.quietCount y.quietCount ∧ z.peakAmp = max x.peakAmp y.peakAmp ∧
           z.refGroup = ref ∧ z.firstCycle = min x.firstCycle y.firstCycle ∧
           z.acknowledged = (x.acknowledged && y.acknowledged) ∧
           z.confirmCycle =
             (if confirmed then
               some (match ref with
                 | some g => s.groups[g].lifeCycles
                 | none => 0)
             else
               match x.confirmCycle, y.confirmCycle with
               | some m, some n => some (min m n)
               | some m, none => some m
               | none, n => n) ∧
           (x.width = none → z.width = y.width) ∧ (y.width = none → z.width = x.width) ∧
           ∀ v w, x.width = some v → y.width = some w →
             z.width =
               if v.width < w.width ∨ (v.width = w.width ∧ v.inspectedCycle < w.inspectedCycle) then some w
               else some v)

/-! ## Limits -/

/-- R154 to R157: one evaluation of an enabled limit, on a value beyond set, in the band or past clear, and on an
unreliable source, as Table 9-4 and the stale policy give; value takes what was read. R150, R151, R152: what each
source gives: the values of a ram as they stand, force and stroke 0 from a ram whose fs_force is 0 (a track_error
after a trip in the same sample set, and that fs_force is read as it stands too: the model's choices, assumption logs
26 and 27), an aux count, the strain of a gauge in OK and nothing of any other, the number of unacknowledged records
the floor admits, the largest width present. -/
def Obligations.LimitsAreEvaluatedByTheTable : Prop :=
  (∀ (l : Limit) (v : Int),
     let beyond := (l.compare = .above ∧ l.set < v) ∨ (l.compare = .below ∧ v < l.set)
     let past := (l.compare = .above ∧ v < l.clear) ∨ (l.compare = .below ∧ l.clear < v)
     l.related = true → 1 ≤ l.persistence →
     ¬(beyond ∧ past) ∧
       (l.state = .clear → ¬beyond → l.judge v = { l with value := some v }) ∧
       (l.state = .clear → beyond → 1 < l.persistence →
         l.judge v = { l with state := .pending, counter := 1, value := some v }) ∧
       (l.state = .clear → beyond → l.persistence = 1 →
         l.judge v = { l with state := .tripped, counter := 0, value := some v }) ∧
       (l.state = .pending → past →
         l.judge v = { l with state := .clear, counter := 0, value := some v }) ∧
       (l.state = .pending → ¬past → l.counter + 1 < l.persistence →
         l.judge v = { l with counter := l.counter + 1, value := some v }) ∧
       (l.state = .pending → ¬past → l.persistence ≤ l.counter + 1 →
         l.judge v = { l with state := .tripped, counter := 0, value := some v }) ∧
       (l.state = .tripped → ¬past → l.judge v = { l with value := some v }) ∧
       (l.state = .tripped → past →
         l.judge v =
           { l with state := if l.latching = true then .latched else .clear, counter := 0, value := some v }) ∧
       (l.state = .latched → l.judge v = { l with value := some v }) ∧
       (l.stalePolicy = .hold ∨ l.state = .tripped ∨ l.state = .latched →
         l.judgeStale = { l with value := none }) ∧
       (l.stalePolicy = .trip → l.state = .clear ∨ l.state = .pending →
         l.judgeStale = { l with state := .tripped, counter := 0, value := none })) ∧
    (∀ (s : State) (l : Limit),
       (∀ r : Fin 8, l.sourceKey = r.val →
         (l.source = .ramForce →
             sourceValue l s = some (if s.rams[r].fsForce = 0 then 0 else s.rams[r].force)) ∧
           (l.source = .ramStroke →
             sourceValue l s = some (if s.rams[r].fsForce = 0 then 0 else s.rams[r].stroke)) ∧
           (l.source = .ramError → sourceValue l s = some (s.rams[r].trackError : Int))) ∧
         (∀ i : Fin 4, l.sourceKey = i.val → l.source = .aux → sourceValue l s = some s.hall.aux[i]) ∧
         (∀ k : Fin 48, l.sourceKey = k.val → l.source = .gaugeStrain →
           (∀ e, s.gauges[k].state = .ok → s.gauges[k].strain = some e → sourceValue l s = some e.now) ∧
             (s.gauges[k].state ≠ .ok → sourceValue l s = none)) ∧
         ∀ g : Fin 4, l.sourceKey = g.val →
           (l.source = .crackCount →
             sourceValue l s =
               some
                 (((List.finRange 32).filter fun c =>
                   match s.cracks[c] with
                   | none => false
                   | some y =>
                     decide (y.refGroup = some g ∧ y.acknowledged = false ∧
                       (l.floor = .any ∨ (l.floor = .confirmed ∧ y.state ≠ .suspect) ∨ y.state = .active))
                   ).length : Int)) ∧
             (l.source = .crackWidth →
               ∃ w : Nat, sourceValue l s = some (w : Int) ∧
                 (∀ (c : Fin 32) (y : Crack) (v : Width), s.cracks[c] = some y → y.refGroup = some g →
                   y.width = some v → v.width ≤ w) ∧
                 (w = 0 ∨ ∃ (c : Fin 32) (y : Crack) (v : Width), s.cracks[c] = some y ∧
                   y.refGroup = some g ∧ y.width = some v ∧ v.width = w)))

/-- R20: the recomputation of a group's severity and derate factor from the engaged limits that target it. R21, R22,
R43, R161: the action of an engaging limit on one target group, by Table 1-7, and nothing beside: the whole state
after it, with the marks of R23 and R44. R43, R159, R161: an engage notice reaches every target: the group is
recomputed by R20 and the action then acts on it and on its rams (R21); a release notice recomputes every target; a
group that is no target, and its rams, stay as they are. The targets do not touch one another, so the ascending order
of the notices leaves nothing else to say. R155, R158, R159, R164: an evaluation stores the judged limit and marks a
change of state; entry to an engaged state hands the engage, departure from them the release, and nothing else moves a
group. A DISABLED limit and an EMPTY slot are not evaluated (R149, R153). -/
def Obligations.EngagedLimitsActOnTheirGroups : Prop :=
  (∀ (g : Fin 4) (s : State),
     let t := recompute g s
     let engaging (l : Limit) :=
       (∃ i : Fin 24, s.limits[i] = some l) ∧ (l.state = .tripped ∨ l.state = .latched) ∧
         l.targets.getLsbD g.val = true
     let rank (a : Action) : Nat :=
       match a with
       | .note => 0
       | .derate => 1
       | .pauseAtCycleEnd => 2
       | .pauseNow => 3
       | .unload => 4
       | .trip => 5
     t = { s with
           groups :=
             s.groups.set g
               { s.groups[g] with severity := t.groups[g].severity, derate := t.groups[g].derate }
           marks :=
             { s.marks with
               group :=
                 s.marks.group.set g
                   (s.marks.group[g] || decide (t.groups[g].severity ≠ s.groups[g].severity)) } } ∧
       (∀ l, engaging l → rank l.action ≤ t.groups[g].severity) ∧
       (t.groups[g].severity = 0 ∨ ∃ l, engaging l ∧ rank l.action = t.groups[g].severity) ∧
       t.groups[g].derate ≤ 1000 ∧
       (∀ l, engaging l → l.action = .derate → t.groups[g].derate ≤ l.derate) ∧
       (t.groups[g].derate = 1000 ∨
         ∃ l, engaging l ∧ l.action = .derate ∧ l.derate = t.groups[g].derate)) ∧
    (∀ (g : Fin 4) (s : State),
       let x := s.groups[g]
       let active := ∃ r : Fin 8, s.rams[r].group = g ∧ s.rams[r].state = .active
       let cycling := (stepOf g x.cursor s).kind = .cycle ∧ x.cycling = .cycling
       let idle : Group :=
         { x with
           state := .idle, command := x.seatLoad * 1024, phase := 0, cycling := .leadIn,
           stepEntered := false, pauseCause := .none }
       let moved (y : Group) : State :=
         { s with
           groups := s.groups.set g y
           marks := { s.marks with group := s.marks.group.set g true } }
       applyAction .note g s = s ∧ applyAction .derate g s = s ∧
         (x.state = .run →
           applyAction .pauseAtCycleEnd g s =
               moved { x with state := if cycling then .ending else .pause, pauseCause := .limit } ∧
             applyAction .pauseNow g s = moved { x with state := .pause, pauseCause := .limit }) ∧
         (x.state = .ending →
           applyAction .pauseAtCycleEnd g s =
               { s with
                 groups := s.groups.set g { x with pauseCause := .limit }
                 marks :=
                   { s.marks with
                     group :=
                       s.marks.group.set g (s.marks.group[g] || decide (x.pauseCause ≠ .limit)) } } ∧
             applyAction .pauseNow g s = moved { x with state := .pause, pauseCause := .limit }) ∧
         (x.state = .run ∨ x.state = .ending ∨ x.state = .pause →
           applyAction .unload g s =
             moved (if active then { x with state := .unload, pauseCause := .none } else idle)) ∧
         (x.state = .idle ∨ x.state = .unload →
           applyAction .pauseAtCycleEnd g s = s ∧ applyAction .pauseNow g s = s ∧
             applyAction .unload g s = s) ∧
         (x.state = .pause → applyAction .pauseAtCycleEnd g s = s ∧ applyAction .pauseNow g s = s) ∧
         ∃ t, applyAction .trip g s = t ∧
           t = { s with
                 rams := t.rams, groups := if active ∧ x.state ≠ .idle then s.groups.set g idle else s.groups,
                 marks :=
                   { s.marks with
                     ram := t.marks.ram
                     group :=
                       if active ∧ x.state ≠ .idle then s.marks.group.set g true else s.marks.group } } ∧
           ∀ r : Fin 8,
             t.rams[r] =
                 (if s.rams[r].group = g ∧ s.rams[r].state = .active then
                   { s.rams[r] with
                     state := .tripped, tripCause := .limit, setpoint := 0, u := 0, trackError := 0,
                     clamped := false, slewLimited := false, saturated := false, satCount := 0,
                     coilCount := 0, integrator := 0,
                     shadowCompare := (roundDiv s.hall.pwmPeriod 2).toNat }
                 else s.rams[r]) ∧
               t.marks.ram[r] =
                 (s.marks.ram[r] || decide (s.rams[r].group = g ∧ s.rams[r].state = .active))) ∧
    (∀ (l : Limit) (s : State),
       let t := notifyEngage l s
       let u := notifyRelease l s
       t = { s with
             rams := t.rams, groups := t.groups,
             marks := { s.marks with ram := t.marks.ram, group := t.marks.group } } ∧
         (∀ g : Fin 4, l.targets.getLsbD g.val = true →
           let v := applyAction l.action g (recompute g s)
           t.groups[g] = v.groups[g] ∧ t.marks.group[g] = v.marks.group[g] ∧
             ∀ r : Fin 8, s.rams[r].group = g →
               t.rams[r] = v.rams[r] ∧ t.marks.ram[r] = v.marks.ram[r]) ∧
         (∀ g : Fin 4, l.targets.getLsbD g.val = false →
           t.groups[g] = s.groups[g] ∧ t.marks.group[g] = s.marks.group[g] ∧
             ∀ r : Fin 8, s.rams[r].group = g →
               t.rams[r] = s.rams[r] ∧ t.marks.ram[r] = s.marks.ram[r]) ∧
         u = { s with groups := u.groups, marks := { s.marks with group := u.marks.group } } ∧
         ∀ g : Fin 4,
           (l.targets.getLsbD g.val = true →
             u.groups[g] = (recompute g s).groups[g] ∧ u.marks.group[g] = (recompute g s).marks.group[g]) ∧
             (l.targets.getLsbD g.val = false →
               u.groups[g] = s.groups[g] ∧ u.marks.group[g] = s.marks.group[g])) ∧
    ((∀ (i : Fin 24) (s : State),
         s.limits[i] = none ∨ (∃ l, s.limits[i] = some l ∧ l.state = .disabled) → evalLimit i s = s) ∧
       ∀ (i : Fin 24) (l : Limit) (s : State), s.limits[i] = some l → l.state ≠ .disabled →
         let judged :=
           match sourceValue l s with
           | some v => l.judge v
           | none => l.judgeStale
         let stored : State :=
           { s with
             limits := s.limits.set i (some judged)
             marks :=
               { s.marks with
                 limit := s.marks.limit.set i (s.marks.limit[i] || decide (judged.state ≠ l.state)) } }
         let on (x : Limit) := x.state = .tripped ∨ x.state = .latched
         (on judged → ¬on l → evalLimit i s = notifyEngage judged stored) ∧
           (¬on judged → on l → evalLimit i s = notifyRelease judged stored) ∧
           ((on judged ↔ on l) → evalLimit i s = stored))

/-- R27, R71, R88, R142, R153, Table 9-2: the events at which a limit is evaluated, told of the only limit defined.
The event does what it does without the limit, and the limit is then evaluated on the records it leaves: a ram or aux
limit at every sample set, after the group advances (that order is the model's choice, assumption log 5; the rules put
both after the ram channels); a gauge limit at every change of its gauge's state and at every completion of a round
with its pod; a crack limit at every zone change notice for its group. -/
def Obligations.LimitsAreEvaluatedAtTheirEvents : Prop :=
  ∀ (i : Fin 24) (l : Limit) (s : State), OnlyLimit s i l →
    let zones (g : Fin 4) := (l.source = .crackCount ∨ l.source = .crackWidth) ∧ l.sourceKey = g.val
    let gauges (k : Fin 48) := l.source = .gaugeStrain ∧ l.sourceKey = k.val
    let dist (x : Int) (y : Crack) : Nat := (x - y.xMm).natAbs
    (∀ counts : Vector (BitVec 16) 28, s.inReset = false → s.scanEnds ≠ none →
      l.source = .ramForce ∨ l.source = .ramStroke ∨ l.source = .ramError ∨ l.source = .aux →
      ExecEvaluates (.sampleSet counts) i s) ∧
      (∀ (k : Fin 48) (x : Gauge), gauges k → x.state ≠ s.gauges[k].state → Evaluates (putGauge k x) i s) ∧
      (∀ (k : Fin 48) (aborted : Bool), gauges k → podOf k ∈ s.round.pods →
        Evaluates (completeRound aborted) i s) ∧
      (∀ (c : Instr) (k : Fin 48) (items : List Byte) (u : State), gauges k → IsGaugeWrite c k items →
        exec c (withoutLimit i s) = .next u → u.gauges[k].state ≠ s.gauges[k].state →
        ExecEvaluates c i s) ∧
      (∀ (reply : PodReply) (k : Fin 48) (p : Fin 12) (rest : List (Fin 12)) (u : State), gauges k →
        s.inReset = false → s.plan.roundState = .read → s.round.restarting = false →
        s.round.todo = p :: rest → exec (.podReadDone reply) (withoutLimit i s) = .next u →
        let read : State := { u with limits := s.limits }
        let judged := if u.gauges[k].state ≠ s.gauges[k].state then evalLimit i read else read
        exec (.podReadDone reply) s =
          .next (if rest = [] ∧ podOf k ∈ s.round.pods then evalLimit i judged else judged)) ∧
      (∀ (c : Instr) (slot : Fin 32) (y : Crack) (g : Fin 4), zones g → Due c s → s.cracks[slot] = some y →
        y.refGroup = some g →
        (c = .crackAck (byte slot.val) ∧ y.acknowledged = false) ∨ c = .crackRetire (byte slot.val) ∨
          (∃ w : BitVec 16, c = .crackWidth (byte slot.val) w ∧ w.toNat ≤ 10000) →
        ExecEvaluates c i s) ∧
      (∀ (a b : Fin 32) (x y : Crack) (g : Fin 4), zones g → Due (.crackMerge (byte a.val) (byte b.val)) s →
        a ≠ b → s.cracks[a] = some x → s.cracks[b] = some y →
        x.refGroup = some g ∨ y.refGroup = some g ∨
          zoneOf (roundDiv (roundDiv (x.xq * x.events + y.xq * y.events) (x.events + y.events)) 16) s =
            some g →
        ExecEvaluates (.crackMerge (byte a.val) (byte b.val)) i s) ∧
      (∀ (c : Instr) (h g : Fin 4) (items : List Byte) (u : State) (d : Fin 32) (y : Crack), zones g →
        IsGroupWrite c h items → exec c (withoutLimit i s) = .next u → s.cracks[d] = some y →
        (u.cracks[d]).bind (·.refGroup) ≠ y.refGroup →
        y.refGroup = some g ∨ (u.cracks[d]).bind (·.refGroup) = some g →
        ExecEvaluates c i s) ∧
      (∀ g : Fin 4, zones g →
        (∃ c : Fin 32,
          ((closeWindow g (withoutLimit i s)).cracks[c]).map (fun y => (y.state, y.acknowledged)) ≠
            (s.cracks[c]).map fun y => (y.state, y.acknowledged)) →
        Evaluates (closeWindow g) i s) ∧
      (∀ (x : Int) (amp cycle : Nat) (c : Fin 32) (y : Crack) (g : Fin 4), zones g → s.cracks[c] = some y →
        dist x y ≤ s.crackset.radiusMm →
        (∀ (d : Fin 32) (z : Crack), s.cracks[d] = some z →
          dist x y < dist x z ∨ (dist x y = dist x z ∧ c ≤ d)) →
        y.refGroup = some g ∨
          zoneOf
              (roundDiv (y.xq + roundDiv (16 * x - y.xq) (min (satInc 65535 y.events) 256)) 16) s =
            some g →
        Evaluates (locatedEvent x amp cycle) i s) ∧
      ∀ (x : Int) (amp cycle : Nat) (g : Fin 4), zones g → zoneOf x s = some g →
        (∀ (d : Fin 32) (z : Crack), s.cracks[d] = some z → s.crackset.radiusMm < dist x z) →
        (∃ c : Fin 32, s.cracks[c] = none) →
        Evaluates (locatedEvent x amp cycle) i s

/-- R142, R146 to R149, R164: an accepted WRITE of a LIMIT slot defines, edits, enables or disables it; a broken
relation is refused; where the limit neither was nor becomes engaged, nothing beyond its slot and its mark changes. A
disable of an engaged limit hands its release to every target, and wherever a WRITE evaluates the limit the state is
that of its evaluation, notices included. A source is read as it stands (after a trip: assumption log 26; fs_force
written since the latest sample set: log 27). R159, R162, R163, R164: LIMIT_ACK clears a LATCHED limit, hands its
release to every target and judges it afresh, engaging it again where it trips, and is refused in any other state;
LIMIT_RETIRE empties the slot; a group that the limit does not target is not touched by a retirement, and no ram is. -/
def Obligations.LimitRequestsDefineAndRelease : Prop :=
  (∀ (c : Instr) (l : Fin 24) (items : List Byte) (pairs : List (Nat × Int)) (s : State),
     let x : Limit := putAll Limit.put pairs ((s.limits[l]).getD
       { state := .disabled, enabled := false, source := .ramForce, sourceKey := 0, floor := .any,
         compare := .above, set := 0, clear := 0, persistence := 1, action := .note, derate := 900,
         targets := 0, latching := false, stalePolicy := .hold, counter := 0, value := none })
     let top : Nat :=
       match x.source with
       | .gaugeStrain => 47
       | .ramForce | .ramStroke | .ramError => 7
       | .aux | .crackCount | .crackWidth => 3
     let related :=
       x.sourceKey ≤ top ∧ (x.compare = .above → x.clear ≤ x.set) ∧ (x.compare = .below → x.set ≤ x.clear)
     let on (y : Limit) := y.state = .tripped ∨ y.state = .latched
     let put (y : Limit) : State :=
       { s with
         limits := s.limits.set l (some y)
         marks :=
           { s.marks with
             limit :=
               s.marks.limit.set l
                 (s.marks.limit[l] || decide (s.limits[l].map (·.state) ≠ some y.state)) } }
     let becomes (y : Limit) (u : State) :=
       ∃ t, exec c s = .next t ∧ t = { u with port := answered ok s } ∧
         t = { s with
               limits := s.limits.set l (some y), rams := t.rams, groups := t.groups, port := answered ok s,
               marks :=
                 { s.marks with
                   limit := s.marks.limit.set l t.marks.limit[l], ram := t.marks.ram,
                   group := t.marks.group } } ∧
         (¬on y → (∀ old, s.limits[l] = some old → ¬on old) →
           t.rams = s.rams ∧ t.groups = s.groups ∧ t.marks.ram = s.marks.ram ∧
             t.marks.group = s.marks.group) ∧
         (s.limits[l].map (·.state) ≠ some y.state → t.marks.get (.limit l) = true)
     let cleared : Limit := { x with state := .clear, counter := 0 }
     let judged : State := evalLimit l (put cleared)
     IsLimitWrite c l items → Passes c (.limit l) items pairs s →
     (¬related → exec c s = .next { s with port := answered (refuseAt .badValue pairs.length) s }) ∧
       (related → s.limits[l] = none → x.enabled = false → becomes x (put x)) ∧
       (related → s.limits[l] = none → x.enabled = true → becomes (cleared.evaluated s) judged) ∧
       ∀ old, related → s.limits[l] = some old →
         (old.enabled = false → x.enabled = false → becomes x (put x)) ∧
           (old.enabled = true → x.enabled = false →
             let off : Limit := { x with state := .disabled, counter := 0 }
             (on old → becomes off (notifyRelease old (put off))) ∧ (¬on old → becomes off (put off))) ∧
           (old.enabled = false → x.enabled = true → becomes (cleared.evaluated s) judged) ∧
           (old.enabled = true → x.enabled = true → x ≠ old → becomes (cleared.evaluated s) judged) ∧
           (x.enabled = true → x = old → Idles c s)) ∧
    ((∀ (c : Instr) (slot : Byte) (s : State), (c = .limitAck slot ∨ c = .limitRetire slot) → Due c s →
         (24 ≤ slot.toNat ∨ ∃ i : Fin 24, slot = byte i.val ∧ s.limits[i] = none) → Refuses c .badKey s) ∧
       ∀ (i : Fin 24) (l : Limit) (s : State), s.limits[i] = some l →
         (Due (.limitAck (byte i.val)) s → l.state ≠ .latched →
           Refuses (.limitAck (byte i.val)) .wrongState s) ∧
           (Due (.limitAck (byte i.val)) s → l.state = .latched →
             let cleared : State :=
               { s with
                 limits := s.limits.set i (some { l with state := .clear, counter := 0 })
                 marks := { s.marks with limit := s.marks.limit.set i true } }
             ∃ t, exec (.limitAck (byte i.val)) s = .next t ∧
               t = { evalLimit i (notifyRelease l cleared) with port := answered ok s } ∧
               t = { s with
                     limits :=
                       s.limits.set i (some (({ l with state := .clear, counter := 0 } : Limit).evaluated s)),
                     rams := t.rams, groups := t.groups, port := answered ok s,
                     marks :=
                       { s.marks with
                         limit := s.marks.limit.set i true, ram := t.marks.ram,
                         group := t.marks.group } }) ∧
           (Due (.limitRetire (byte i.val)) s →
             let retired : State :=
               { s with
                 limits := s.limits.set i none
                 marks := { s.marks with limit := s.marks.limit.set i true } }
             ∃ t, exec (.limitRetire (byte i.val)) s = .next t ∧
               (l.state = .tripped ∨ l.state = .latched →
                 t = { notifyRelease l retired with port := answered ok s }) ∧
               (¬(l.state = .tripped ∨ l.state = .latched) → t = { retired with port := answered ok s }) ∧
               t = { s with
                     limits := s.limits.set i none, groups := t.groups, port := answered ok s,
                     marks :=
                       { s.marks with limit := s.marks.limit.set i true, group := t.marks.group } } ∧
               ∀ g : Fin 4,
                 ((l.state = .tripped ∨ l.state = .latched) ∧ l.targets.getLsbD g.val = true →
                   t.groups[g] =
                     { s.groups[g] with
                       severity := severityOf (engagedOn g t), derate := derateOf (engagedOn g t) }) ∧
                   (¬((l.state = .tripped ∨ l.state = .latched) ∧ l.targets.getLsbD g.val = true) →
                     t.groups[g] = s.groups[g])))

/-! ## WRITE -/

/-- R178, R185: the pairs of a WRITE are checked in the order they stand, each by steps 1 to 4, and the first that
fails gives the status and its index; a WRITE that fails before or at a pair changes nothing. R29, R32, R60, R79,
R106, R147, R178, Tables 1-1, 1-2, 2-2, 4-3, 5-1, 6-2, 7-1, 8-1, 9-1, 10-4: which fields may be written, with what
values, and in which states of the record. That a pair of source_key is within its range up to 47, whatever the
source, is DEDUCED (assumption log 8). -/
def Obligations.WritesAreCheckedPairByPair : Prop :=
  ((∀ (s : State) (r : RecordId) (ps : List (Nat × List Byte)) (tail : List Byte),
       let items := (ps.flatMap fun p => byte p.1 :: p.2) ++ tail
       let vals := ps.map fun p => (p.1, (accessOf r.kind p.1).decode p.2)
       (∀ p ∈ ps, r.kind.width? p.1 = some p.2.length) →
       (∀ i (h : i < vals.length), PairPasses s r (vals.take i) (vals[i]).1 (vals[i]).2) →
       (tail = [] → checkPairs s r items.length [] items = .good vals) ∧
         ∀ (f : Byte) (rest : List Byte), tail = f :: rest →
           (r.kind.width? f.toNat = none →
             checkPairs s r items.length [] items = .bad .badField ps.length) ∧
             ∀ w, r.kind.width? f.toNat = some w →
               let a := accessOf r.kind f.toNat
               let v := a.decode (rest.take w)
               let named := a = .readOnly ∨ ∃ p ∈ ps, p.1 = f.toNat
               (rest.length < w → checkPairs s r items.length [] items = .bad .badValue ps.length) ∧
                 (w ≤ rest.length → named →
                   checkPairs s r items.length [] items = .bad .badField ps.length) ∧
                 (w ≤ rest.length → ¬named → a.admits v = false →
                   checkPairs s r items.length [] items = .bad .badValue ps.length) ∧
                 (w ≤ rest.length → ¬named → a.admits v = true → letsWrite s r f.toNat = false →
                   checkPairs s r items.length [] items = .bad .wrongState ps.length)) ∧
     ∀ (c : Instr) (kind key : Byte) (items : List Byte) (s : State), asTaken c = .write kind key items →
       Due c s →
       ((∀ r : RecordId, r.pair ≠ (kind.toNat, key.toNat)) → Refuses c .badKey s) ∧
         ∀ r : RecordId, r.pair = (kind.toNat, key.toNat) →
           (items = [] → exec c s = .next { s with port := answered (refuseAt .badValue 0) s }) ∧
             ∀ st i, items ≠ [] → checkPairs s r items.length [] items = .bad st i →
               exec c s = .next { s with port := answered (refuseAt st i) s }) ∧
    ((∀ (s : State) (f : Nat),
         (letsWrite s .hall f = false ↔
           (f = 3 ∧ ∃ r : Fin 8, s.rams[r].state = .active) ∨ (f = 4 ∧ s.plan.roundState ≠ .idle)) ∧
           (∀ r : Fin 8,
             letsWrite s (.ram r) f = false ↔
               (f = 3 ∧ s.rams[r].state ≠ .off) ∨
                 ((f = 5 ∨ f = 6 ∨ f = 10 ∨ f = 11 ∨ f = 17) ∧ s.rams[r].state = .active)) ∧
           (∀ k : Fin 48,
             letsWrite s (.gauge k) f = false ↔ (f = 2 ∨ f = 3 ∨ f = 4) ∧ s.gauges[k].enabled = true) ∧
           (∀ p : Fin 16, letsWrite s (.apod p) f = false ↔ f = 2 ∧ s.apods[p].enabled = true) ∧
           (∀ l : Fin 24,
             letsWrite s (.limit l) f = false ↔
               f ≠ 2 ∧ ∃ x, s.limits[l] = some x ∧ (x.state = .tripped ∨ x.state = .latched)) ∧
           letsWrite s .plan f = true ∧ letsWrite s .crackset f = true ∧
           (∀ g, letsWrite s (.group g) f = true) ∧ ∀ i, letsWrite s (.step i) f = true) ∧
       let writable : List (Kind × Nat × Int × Int) :=
         [(.hall, 1, 0, 50), (.hall, 2, 2, 12), (.hall, 3, 1000, 20000), (.hall, 4, 100, 400),
          (.hall, 5, 100, 10000), (.hall, 6, 100, 20000), (.hall, 7, 1, 15), (.hall, 8, 0, 2047),
          (.hall, 9, 0, 0), (.hall, 10, 0, 0), (.ram, 3, 0, 3), (.ram, 4, 0, 10000), (.ram, 5, 0, 8000000),
          (.ram, 6, -32768, 32767), (.ram, 7, -8000000, 8000000), (.ram, 8, -8000000, 8000000),
          (.ram, 9, 1, 8000000), (.ram, 10, 1000, 2000000), (.ram, 11, -32768, 32767),
          (.ram, 12, -2000000, 2000000), (.ram, 13, -2000000, 2000000), (.ram, 14, 0, 16777215),
          (.ram, 15, 0, 16777215), (.ram, 16, 1, 65535), (.ram, 17, 1, 5000), (.ram, 18, 1, 255),
          (.group, 2, 0, 16), (.group, 6, -8000000, 8000000), (.group, 7, 1, 10000000), (.group, 13, 0, 250000),
          (.group, 14, 0, 250000), (.step, 1, 0, 4), (.step, 2, -8000000, 8000000), (.step, 3, 1, 10000000),
          (.step, 4, 1, 2147483647), (.step, 5, -8000000, 8000000), (.step, 6, 0, 8000000), (.step, 7, 10, 10000),
          (.step, 8, 1, 4294967295), (.plan, 1, 0, 4), (.plan, 2, 0, 3), (.plan, 3, 0, 255), (.plan, 4, 10, 60000),
          (.plan, 5, 0, 2), (.gauge, 1, 0, 1), (.gauge, 2, 500, 5000), (.gauge, 3, 0, 2),
          (.gauge, 4, -8388607, 8388607), (.apod, 1, 0, 1), (.apod, 2, 0, 250000), (.crackset, 1, 500, 10000),
          (.crackset, 4, 30, 100), (.crackset, 5, 1000, 100000), (.crackset, 6, 1000, 7000),
          (.crackset, 7, 0, 1000), (.crackset, 8, 10, 5000), (.crackset, 9, 2, 255), (.crackset, 10, 100, 100000),
          (.crackset, 11, 1, 65535), (.crackset, 12, 1, 255), (.crackset, 13, 1, 255), (.limit, 2, 0, 1),
          (.limit, 3, 0, 6), (.limit, 4, 0, 47), (.limit, 5, 0, 2), (.limit, 6, 0, 1),
          (.limit, 7, -2147483648, 2147483647), (.limit, 8, -2147483648, 2147483647), (.limit, 9, 1, 255),
          (.limit, 10, 0, 5), (.limit, 11, 100, 999), (.limit, 12, 0, 15), (.limit, 13, 0, 1),
          (.limit, 14, 0, 1)]
       (∀ (k : Kind) (f : Nat) (lo hi : Int), (k, f, lo, hi) ∈ writable →
         accessOf k f ≠ .readOnly ∧
           ∀ v : Int,
             (accessOf k f).admits v = true ↔
               lo ≤ v ∧ v ≤ hi ∧ (k = .hall → f = 4 → v = 100 ∨ v = 400) ∧
                 (k = .ram → f = 5 → v = 0 ∨ 1000 ≤ v)) ∧
         ∀ (k : Kind) (f : Nat), (∀ lo hi, (k, f, lo, hi) ∉ writable) → accessOf k f = .readOnly)

/-- R1, R3, R29, R72, R105, R123, R145, R183, R185: a WRITE's pair sets the field of its number, and a READ then
reports that value and every other field as before; enabled of a GAUGE and of an APOD acts by rules of its own. R29,
R32, R61, R72, R73, R107, R110, R123, R182, R183: accepted WRITEs of HALL, RAM, PLAN and CRACKSET set their fields and
nothing else; a new pwm_period restarts the period counter and gives every channel the new mid; a new source or
interval restarts the interval timer. A stretch released at the very count of REFCLK of a WRITE of stretch_limit_us
takes the new value: the WRITE comes first (the model's choice, assumption log 13). -/
def Obligations.SettingsWritesReadBack : Prop :=
  (let sets (k : Kind) (before after : List (Option Int)) (f : Nat) (v : Int) : Prop :=
     after[f - 1]? = some (some v) ∧ after.length = k.widths.length ∧
       ∀ j, j ≠ f - 1 → after[j]? = before[j]?
   ∀ (f : Nat) (v : Int),
     (∀ s : State, (accessOf .hall f).admits v = true →
       sets .hall (hallFields s) (hallFields { s with hall := s.hall.put f v }) f v) ∧
       (∀ x : Ram, (accessOf .ram f).admits v = true → sets .ram x.fields (x.put f v).fields f v) ∧
       (∀ x : Group, (accessOf .group f).admits v = true → sets .group x.fields (x.put f v).fields f v) ∧
       (∀ x : StepRec, (accessOf .step f).admits v = true → sets .step x.fields (x.put f v).fields f v) ∧
       (∀ x : Plan, (accessOf .plan f).admits v = true → sets .plan x.fields (x.put f v).fields f v) ∧
       (∀ x : Gauge, (accessOf .gauge f).admits v = true → f ≠ 1 →
         sets .gauge x.fields (x.put f v).fields f v) ∧
       (∀ x : APod, (accessOf .apod f).admits v = true → f ≠ 1 →
         sets .apod x.fields (x.put f v).fields f v) ∧
       (∀ x : CrackSet, (accessOf .crackset f).admits v = true →
         sets .crackset x.fields (x.put f v).fields f v) ∧
       ∀ x : Limit, (accessOf .limit f).admits v = true →
         sets .limit (limitFields (some x)) (limitFields (some (x.put f v))) f v) ∧
    (∀ (c : Instr) (items : List Byte) (pairs : List (Nat × Int)) (s : State),
       let noted : Round :=
         { s.round with
           limitWrites :=
             if (∃ p ∈ pairs, p.1 = 5) ∧
                 (s.plan.roundState = .latch ∨ s.plan.roundState = .read ∨ s.plan.roundState = .clear) then
               (s.clk, s.hall.stretchLimitUs) :: s.round.limitWrites
             else s.round.limitWrites }
       (IsHallWrite c items → Passes c .hall items pairs s → (∀ p ∈ pairs, p.1 ≠ 3) →
         exec c s =
           .next { s with hall := putAll Hall.put pairs s.hall, round := noted, port := answered ok s }) ∧
         (IsHallWrite c items → Passes c .hall items pairs s →
           s.plan.roundState = .latch ∨ s.plan.roundState = .read ∨ s.plan.roundState = .clear →
           (∀ w ∈ s.round.limitWrites, w.1 ≤ s.clk) →
           ∃ t, exec c s = .next t ∧ (∀ w ∈ t.round.limitWrites, w.1 ≤ t.clk) ∧
             (∀ released, released < s.clk → stretchLimitAt released t = stretchLimitAt released s) ∧
             ∀ released, s.clk ≤ released → stretchLimitAt released t = t.hall.stretchLimitUs) ∧
         (IsHallWrite c items → Passes c .hall items pairs s → (∃ p ∈ pairs, p.1 = 3) →
           ∃ t, exec c s = .next t ∧
             t = { s with
                   hall := putAll Hall.put pairs s.hall, round := noted, pulseStart := s.clk, rams := t.rams,
                   port := answered ok s } ∧
             (∀ r : Fin 8,
               t.rams[r] =
                 { s.rams[r] with
                   shadowCompare := (roundDiv t.hall.pwmPeriod 2).toNat
                   activeCompare := (roundDiv t.hall.pwmPeriod 2).toNat }) ∧
             pulseCounter t = 0) ∧
         (∀ r : Fin 8, c = .write 1 (byte r.val) items → Passes c (.ram r) items pairs s →
           let x := putAll Ram.put pairs s.rams[r]
           let related :=
             (x.fsForce ≠ 0 →
               -(x.fsForce : Int) ≤ x.fMin ∧ x.fMin < x.fMax ∧ x.fMax ≤ x.fsForce ∧
                 x.slewMax ≤ x.fsForce) ∧
               (-(x.fsStroke : Int) ≤ x.strokeMin ∧ x.strokeMin < x.strokeMax ∧
                 x.strokeMax ≤ x.fsStroke) ∧
               (x.state = .active → x.fMin ≤ x.setpoint ∧ x.setpoint ≤ x.fMax)
           (related → exec c s = .next { s with rams := s.rams.set r x, port := answered ok s }) ∧
             (¬related →
               exec c s = .next { s with port := answered (refuseAt .badValue pairs.length) s })) ∧
         (IsPlanWrite c items → Passes c .plan items pairs s →
           exec c s =
             .next
               { s with
                 plan := putAll Plan.put pairs s.plan
                 round :=
                   { s.round with
                     intervalCount :=
                       if ∃ p ∈ pairs, p.1 = 1 ∨ p.1 = 4 then 2 * (putAll Plan.put pairs s.plan).intervalMs
                       else s.round.intervalCount }
                 port := answered ok s }) ∧
         (c = .write 8 0 items → Passes c .crackset items pairs s →
           exec c s = .next { s with crackset := putAll CrackSet.put pairs s.crackset, port := answered ok s }))

/-- R3, R4, R23: a WRITE of a STEP record: the step editing checks out of IDLE, which come before the other relations
(DEDUCED, assumption log 8), the relation of a CYCLE step, and cycles_left cleared for the step at the cursor in IDLE.
R1, R4, R19, R23, R126, R142: a WRITE of a GROUP record: the step editing checks on step_count, zone_lo not above
zone_hi, the cursor and command of an IDLE group, and the ref groups recomputed at a zone write, beside which only the
crack limits of the groups that a changed ref group concerns can act. -/
def Obligations.ProgramWritesFollowTheEditingRules : Prop :=
  (∀ (c : Instr) (g : Fin 4) (j : Fin 16) (items : List Byte) (pairs : List (Nat × Int)) (s : State),
     let i : Fin 64 := ⟨g.val * 16 + j.val, by omega⟩
     let x := s.groups[g]
     let y := putAll StepRec.put pairs s.steps[i]
     let steps := s.steps.set i y
     let editable :=
       x.state = .idle ∨
         (¬(j.val = x.cursor ∧ x.stepEntered = true) ∧ ¬(j.val < x.stepCount ∧ y.kind = .empty) ∧
           ∀ k : Fin 16, k ≠ j → k.val < x.stepCount → (stepOf g k.val s).kind ≠ .empty)
     let related := y.kind = .cycle → y.mean + y.amp ≤ 8000000 ∧ -8000000 ≤ y.mean - y.amp
     IsStepWrite c i items → Passes c (.step i) items pairs s →
     (¬editable → exec c s = .next { s with port := answered (refuseAt .wrongState pairs.length) s }) ∧
       (editable → ¬related →
         exec c s = .next { s with port := answered (refuseAt .badValue pairs.length) s }) ∧
       (editable → related →
         exec c s =
           .next
             { s with
               steps := steps
               groups :=
                 if x.state = .idle ∧ j.val = x.cursor then s.groups.set g { x with cyclesLeft := 0 }
                 else s.groups
               port := answered ok s })) ∧
    (∀ (c : Instr) (g : Fin 4) (items : List Byte) (pairs : List (Nat × Int)) (s : State),
       let x := s.groups[g]
       let y := putAll Group.put pairs x
       let counts := ∃ p ∈ pairs, p.1 = 2
       let zones := ∃ p ∈ pairs, p.1 = 13 ∨ p.1 = 14
       let editable :=
         counts → x.state = .idle ∨
           (x.cursor ≤ y.stepCount ∧ ¬(y.stepCount = x.cursor ∧ x.stepEntered = true) ∧
             ∀ k : Fin 16, k.val < y.stepCount → (stepOf g k.val s).kind ≠ .empty)
       let cut := x.state = .idle ∧ counts ∧ y.stepCount < x.cursor
       let z : Group :=
         { y with
           cursor := if cut then y.stepCount else x.cursor
           cyclesLeft := if cut then 0 else x.cyclesLeft
           command := if x.state = .idle ∧ (∃ p ∈ pairs, p.1 = 6) then y.seatLoad * 1024 else x.command }
       let written : State :=
         { s with
           groups := s.groups.set g z
           marks := { s.marks with group := s.marks.group.set g (s.marks.group[g] || decide cut) }
           port := answered ok s }
       IsGroupWrite c g items → Passes c (.group g) items pairs s →
       (¬editable → exec c s = .next { s with port := answered (refuseAt .wrongState pairs.length) s }) ∧
         (editable → y.zoneHi < y.zoneLo →
           exec c s = .next { s with port := answered (refuseAt .badValue pairs.length) s }) ∧
         (editable → y.zoneLo ≤ y.zoneHi → ¬zones → exec c s = .next written) ∧
         (editable → y.zoneLo ≤ y.zoneHi → zones →
           ∃ t, exec c s = .next t ∧
             t = { written with
                   cracks := t.cracks, rams := t.rams, groups := t.groups, limits := t.limits,
                     marks :=
                       { written.marks with
                         ram := t.marks.ram, group := t.marks.group, limit := t.marks.limit } } ∧
             (∀ h : Fin 4, t.groups[h].zoneLo = written.groups[h].zoneLo ∧
               t.groups[h].zoneHi = written.groups[h].zoneHi) ∧
             (∀ d : Fin 32,
               t.cracks[d] = (s.cracks[d]).map fun y => { y with refGroup := zoneOf y.xMm written }) ∧
             ((∀ (d : Fin 32) (y : Crack) (g : Fin 4), s.cracks[d] = some y → y.refGroup ≠ zoneOf y.xMm written →
                   y.refGroup = some g ∨ zoneOf y.xMm written = some g → NoCrackLimit s g) →
                 t = { written with cracks := t.cracks })))

/-! ## The request port -/

/-- R170 (with the frame of R169 and the check byte of R168, and the bit order of R166): a fall of SEL in IDLE or
ANSWER begins a transaction in RECEIVING that sends the EMPTY response or the held one, each byte with its most
significant bit first, and READY stays high until the rise of SEL. -/
def Obligations.SelFallPresentsTheResponse : Prop :=
  let code (st : Status) : Byte :=
    match st with
    | .ok => 0
    | .empty => 1
    | .badCheck => 2
    | .badLength => 3
    | .truncated => 4
    | .unknown => 5
    | .badKey => 6
    | .badField => 7
    | .badValue => 8
    | .wrongState => 9
    | .noPressure => 10
    | .limitActive => 11
    | .notFound => 12
  (∀ s : State, s.inReset = false → s.port.selLow = false →
      s.port.phase = .idle ∨ s.port.phase = .answer →
      ∃ t, exec .selFall s = .next t ∧
        t = { s with
              port := { s.port with phase := .receiving, selLow := true, overrun := false } } ∧
        ready s = true ∧
        (∀ i j b, j < 8 → sdoByte i t = some b → sdoBit (8 * i + j) t = some (b.getMsbD j)) ∧
        (s.port.held = none →
          sdoByte 0 t = some 1 ∧ sdoByte 1 t = some 0 ∧ sdoByte 2 t = some (crc8 [1, 0]) ∧
            ∀ i, 3 ≤ i → sdoByte i t = some 0) ∧
        ∀ r, s.port.held = some r →
          let head := [code r.status, byte r.payload.length]
          (∀ i (h : i < 2), sdoByte i t = some (head[i]'h)) ∧
            (∀ i (h : i < r.payload.length), sdoByte (i + 2) t = some r.payload[i]) ∧
            sdoByte (r.payload.length + 2) t = some (crc8 (head ++ r.payload)) ∧
            ∀ i, r.payload.length + 3 ≤ i → sdoByte i t = some 0) ∧
    ∀ s : State, s.inReset = false → s.port.phase = .receiving → ready s = true

/-- R166, R173, R174: a fall of SEL in WORKING begins an overrun, which is counted and at the first marks HALL (R183);
one in STARTING begins a transaction that is not counted; both send 0xFF throughout, and neither's rise changes the
port's state. SDO is not driven while SEL is high. R166: the levels of SDI at the rising edges of SCK make whole bytes
of eight, the most significant bit first, and the bits of a byte still incomplete are discarded. R167, R171, R183: the
rise of SEL that ends a RECEIVING transaction first settles the response it sent, a lost one counted, at the first
with HALL's mark, and with the mark of a lost READ's record; then it judges the frame in the order of R167. A good
frame enters WORKING. -/
def Obligations.SelRiseSettlesThenJudges : Prop :=
  (∀ s : State, s.inReset = false →
     (s.port.selLow = false → s.port.phase = .working →
       ∃ t, exec .selFall s = .next t ∧
         t = { s with
               port := { s.port with selLow := true, overrun := true }
               hall :=
                 { s.hall with
                   overrunCount :=
                     if s.hall.overrunCount < 4294967295 then s.hall.overrunCount + 1
                     else s.hall.overrunCount }
               marks := { s.marks with hall := s.marks.hall || decide (s.hall.overrunCount = 0) } } ∧
         ready t = false ∧ ∀ i, sdoByte i t = some 0xFF ∧ sdoBit i t = some true) ∧
       (s.port.selLow = false → s.port.phase = .starting →
         ∃ t, exec .selFall s = .next t ∧
           t = { s with port := { s.port with selLow := true, overrun := true } } ∧
           ready t = false ∧ ∀ i, sdoByte i t = some 0xFF ∧ sdoBit i t = some true) ∧
       (s.port.selLow = true → s.port.overrun = true →
         ∀ sdi : List Bool,
           exec (.selRise sdi) s =
             .next { s with port := { s.port with selLow := false, overrun := false } }) ∧
       (s.port.selLow = false → ∀ i, sdoByte i s = none ∧ sdoBit i s = none)) ∧
    ((∀ bits : List Bool,
         (spiBytes bits).length = bits.length / 8 ∧
           ∀ i j b, (spiBytes bits)[i]? = some b → j < 8 → bits[8 * i + j]? = some (b.getMsbD j)) ∧
       ∀ (bits : List Bool) (s : State), s.inReset = false → s.port.selLow = true → s.port.overrun = false →
         s.port.phase = .receiving →
         let sdi := spiBytes bits
         let lost : Option Response :=
           match s.port.held with
           | some r => if sdi.length < r.payload.length + 3 then some r else none
           | none => none
         let counted : Marks := { s.marks with hall := s.marks.hall || decide (s.hall.cutCount = 0) }
         let settled : State :=
           { s with
             hall :=
               { s.hall with
                 cutCount :=
                   if lost.isSome = true ∧ s.hall.cutCount < 4294967295 then s.hall.cutCount + 1
                   else s.hall.cutCount }
             marks :=
               match lost with
               | some r =>
                 match r.readOf with
                 | some record => counted.put true record
                 | none => counted
               | none => s.marks
             port := { s.port with selLow := false, overrun := false, held := none } }
         let l := (sdi.headD 0).toNat
         let answers (st : Status) : Host.Outcome State Fault Refusal :=
           .next { settled with port := { settled.port with phase := .answer, held := some (refuse st) } }
         (l = 0 → exec (.selRise bits) s = .next { settled with port := { settled.port with phase := .idle } }) ∧
           (l = 1 ∨ 62 < l → exec (.selRise bits) s = answers .badLength) ∧
           (2 ≤ l → l ≤ 62 → sdi.length < l + 1 → exec (.selRise bits) s = answers .truncated) ∧
           (2 ≤ l → l ≤ 62 → l + 1 ≤ sdi.length → crc8 (sdi.take l) ≠ sdi.getD l 0 →
             exec (.selRise bits) s = answers .badCheck) ∧
           (2 ≤ l → l ≤ 62 → l + 1 ≤ sdi.length → crc8 (sdi.take l) = sdi.getD l 0 →
             let q : Request := { code := sdi.getD 1 0, payload := (sdi.take l).drop 2 }
             ∃ t, exec (.selRise bits) s = .next t ∧
               t = { settled with
                     port := { settled.port with phase := .working, work := some q, restartTaken := false } } ∧
               ready t = false))

/-- R167, R168, R171, R172, R186: decoding and encoding agree. The frame of every well-formed request, clocked with
the most significant bit of each byte first (R166) and followed by any further bytes and an incomplete one, puts
exactly that request in work, and the port makes of it that command (a WRITE under whatever name is the WRITE); and
whatever command the port makes of a request, the request is that command's. -/
def Obligations.EveryRequestFrameReachesWork : Prop :=
  (∀ (c : Instr) (q : Request) (extra : List Byte) (part : List Bool) (s : State), part.length < 8 →
      WellFormed c = true → requestOf c = some q →
      q.payload.length ≤ 60 → s.inReset = false → s.port.selLow = true → s.port.overrun = false →
      s.port.phase = .receiving →
      let body : List Byte := byte (q.payload.length + 2) :: q.code :: q.payload
      let bits : List Bool :=
        (body ++ crc8 body :: extra).flatMap fun b => (List.range 8).map fun j => b.getMsbD j
      ∃ t, exec (.selRise (bits ++ part)) s = .next t ∧ Due c t ∧
        t.port.work = some q ∧ decodeRequest q = .command (asTaken c)) ∧
    ∀ (q : Request) (c : Instr), decodeRequest q = .command c →
      requestOf c = some q ∧ WellFormed c = true ∧ asTaken c = c

/-- R176, R177, R179: IDENTIFY answers the part's fixed values; READ answers the record as it stands and clears its
mark alone; LIST_CHANGED answers the number of marked records and the first 20 from its start on, in the order of
Table 0-1, and clears none; a kind or key that names no record is refused. R182: ATTN is high exactly when some record
of a kind enabled in attention_mask carries its change mark; out of reset. -/
def Obligations.PortRequestsReadTheRecords : Prop :=
  ((∀ s : State, Due .identify s →
       ∃ serial : List Byte, serial.length = 6 ∧ beNat serial = Config.serialNumber.toNat ∧
         exec .identify s =
           .next { s with port := answered (okWith ([0x42, 0x08, 0x32, 0x01] ++ serial)) s }) ∧
     (∀ (r : RecordId) (s : State), Due (.read (byte r.pair.1) (byte r.pair.2)) s →
       ∃ t, exec (.read (byte r.pair.1) (byte r.pair.2)) s = .next t ∧
         t = { s with
               marks := t.marks
               port := answered { status := .ok, payload := readPayload r s, readOf := some r } s } ∧
         ∀ r' : RecordId, t.marks.get r' = (s.marks.get r' && decide (r' ≠ r))) ∧
     (∀ (kind key : Byte) (s : State), (∀ r : RecordId, r.pair ≠ (kind.toNat, key.toNat)) →
       (Due (.read kind key) s → Refuses (.read kind key) .badKey s) ∧
         (Due (.listChanged (some (kind, key))) s → Refuses (.listChanged (some (kind, key))) .badKey s)) ∧
     (markable.Pairwise (fun a b => a.pair.1 < b.pair.1 ∨ (a.pair.1 = b.pair.1 ∧ a.pair.2 < b.pair.2)) ∧
       (∀ r : RecordId, r ∈ markable ↔ r.kind ≠ .step) ∧ markable.length = 147) ∧
     ∀ (start : Option (Byte × Byte)) (s : State), Due (.listChanged start) s →
       (∀ kind key, start = some (kind, key) → ∃ r : RecordId, r.pair = (kind.toNat, key.toNat)) →
       let marked := markable.filter fun r => s.marks.get r
       let from? (r : RecordId) : Bool :=
         match start with
         | none => true
         | some (kind, key) =>
           decide (kind.toNat < r.pair.1 ∨ (kind.toNat = r.pair.1 ∧ key.toNat ≤ r.pair.2))
       let listed := (marked.filter from?).take 20
       exec (.listChanged start) s =
         .next
           { s with
             port :=
               answered
                 (okWith
                   (byte marked.length :: byte listed.length ::
                     listed.flatMap fun r => [byte r.pair.1, byte r.pair.2])) s }) ∧
    (∀ s : State, s.inReset = false →
       (attn s = true ↔ ∃ r : RecordId, s.marks.get r = true ∧ s.hall.attentionMask.getLsbD r.pair.1 = true))

/-- R125, R145, R177, R185: the payload of a READ is the kind, the key and one item for each field present, ascending;
its items split back into those fields, and a value in its field's range is read back from its bytes; it fits a
response. -/
def Obligations.ReadItemsCarryTheFields : Prop :=
  (∀ (r : RecordId) (s : State),
      let fields := recordFields s r
      let present :=
        (List.range fields.length).filterMap fun i =>
          match fields.getD i none with
          | some v => some (i + 1, encodeValue (r.kind.widths.getD i 0) v)
          | none => none
      (readPayload r s).take 2 = [byte r.pair.1, byte r.pair.2] ∧ (readPayload r s).length ≤ 105 ∧
        fields.length ≤ r.kind.widths.length ∧
        splitItems r.kind (readPayload r s).length ((readPayload r s).drop 2) = present) ∧
    ∀ (w : Nat) (v : Int), (encodeValue w v).length = w ∧
      (0 ≤ v → v < 256 ^ w → (beNat (encodeValue w v) : Int) = v) ∧
      (-(256 ^ w : Int) ≤ 2 * v → 2 * v < 256 ^ w → signedBytes w (beNat (encodeValue w v)) = v)

/-- R172, R175: every command has its effect, and none stops the block; a request in work whose code is not one of the
part's, or whose payload has another length or form, is refused by the port before any owner sees it, at the next
request command (assumption log 10: the table has no row for this); any other request that is not in work changes
nothing (the model's choice, log 9); one in work is answered, and one answered with a status other than OK changes
nothing but the port and carries no payload, or the one index byte of a WRITE (R178). The model's choice (assumption
log 9): with no scan in progress a SAMPLE_SET changes nothing. -/
def Obligations.RefusedRequestsChangeNothing : Prop :=
  ((∀ (c : Instr) (s : State), ∃ t, exec c s = .next t) ∧
     ∀ (c : Instr) (s t : State), c ≠ .restart → requestOf c ≠ none → exec c s = .next t →
       (¬Due c s →
         (∀ (q : Request) (st : Status), s.inReset = false → s.port.phase = .working → s.port.work = some q →
           decodeRequest q = .refused st → t = { s with port := answered (refuse st) s }) ∧
           (s.inReset = true ∨ s.port.phase ≠ .working ∨ s.port.work = none ∨
             (∃ q c', s.port.work = some q ∧ decodeRequest q = .command c') → t = s)) ∧
         (Due c s →
           ∃ r, t.port = answered r s ∧
             (r.status ≠ .ok →
               t = { s with port := answered r s } ∧ r.readOf = none ∧
                 (r.payload = [] ∨
                   (r.payload.length = 1 ∧ ∃ kind key items, asTaken c = .write kind key items))))) ∧
    (∀ (counts : Vector (BitVec 16) 28) (s : State), s.scanEnds = none →
       exec (.sampleSet counts) s = .next s)

/-- R24, R45, R77, R109, R121, R165, R180: RESTART puts every ram at rest in OFF, every group in IDLE, every limit
that is not DISABLED in CLEAR, ends the round and the line's sweep, drops the slot hits and keeps all else; a ram, a
limit and, where the severities are those of R20, a group is marked exactly when its record changes as R23, R44 and
R164 name it, and every other mark stays; the port stays in WORKING. A round in LATCH, READ or CLEAR stays there until
RESTART_COMPLETE or the end of its clear (assumption log 12), and the line settles until its next slot (log 15). R60,
R77, R180: once every block has taken the RESTART and any bus clear has ended, the port answers OK; a round in LATCH
or READ ends with it, without a summary, after the STOP of its last byte. RESTART_COMPLETE as the event that ends such
a round is DEDUCED (assumption log 12), its STOP comes at once, the earliest moment (log 13), the bit time after it at
its own rate (log 25), and before its time it changes nothing (log 9). With no byte in progress the STOP is sent all
the same (DESIGN CHOICE, log 28). R60, R65, R68, R187: the levels on SDA up to that STOP: the byte in progress is the
last, and one received from a pod is not acknowledged. -/
def Obligations.RestartReachesEveryBlock : Prop :=
  (∀ s : State, Due .restart s →
     ∃ t, exec .restart s = .next t ∧ ready t = false ∧
       t = { s with
             rams := t.rams, groups := t.groups, limits := t.limits, apods := t.apods,
             marks :=
               { s.marks with
                 ram := t.marks.ram, group := t.marks.group, limit := t.marks.limit },
             plan :=
               { s.plan with
                 roundState :=
                   if s.plan.roundState = .delay ∨ s.plan.roundState = .wait then .idle
                   else s.plan.roundState },
             round :=
               { s.round with
                 restFlag := false, cyclicDue := false, intervalCount := 2 * s.plan.intervalMs,
                 delayCount :=
                   if s.plan.roundState = .delay ∨ s.plan.roundState = .wait then 0
                   else s.round.delayCount,
                 restarting :=
                   s.round.restarting ||
                     decide (s.plan.roundState = .latch ∨ s.plan.roundState = .read ∨
                       s.plan.roundState = .clear) },
             line :=
               { s.line with
                 rr := 15, sweep := .off,
                 frame := if s.crackset.lineState = .stuck then .idle else .settling s.clk },
             port := { s.port with restartTaken := true } } ∧
       (∀ r : Fin 8,
         t.rams[r] =
             { s.rams[r] with
               state := .off, tripCause := .none, setpoint := 0, u := 0, trackError := 0, clamped := false,
               slewLimited := false, saturated := false, satCount := 0, coilCount := 0, integrator := 0,
               shadowCompare := (roundDiv s.hall.pwmPeriod 2).toNat } ∧
           t.marks.ram[r] =
             (s.marks.ram[r] || decide (s.rams[r].state ≠ .off ∨ s.rams[r].tripCause ≠ .none))) ∧
       (∀ g : Fin 4,
         t.groups[g] =
             { s.groups[g] with
               state := .idle, command := s.groups[g].seatLoad * 1024, phase := 0, cycling := .leadIn,
               stepEntered := false, pauseCause := .none, severity := t.groups[g].severity,
               derate := t.groups[g].derate } ∧
           (s.groups[g].state ≠ .idle ∨ s.groups[g].pauseCause ≠ .none ∨
               t.groups[g].severity ≠ s.groups[g].severity → t.marks.group[g] = true) ∧
           (SeverityLaw s →
             t.groups[g].severity = 0 ∧ t.groups[g].derate = 1000 ∧
               t.marks.group[g] =
                 (s.marks.group[g] ||
                   decide (s.groups[g].state ≠ .idle ∨ s.groups[g].pauseCause ≠ .none ∨
                     s.groups[g].severity ≠ 0)))) ∧
       (∀ l : Fin 24,
         (t.limits[l] =
             (s.limits[l]).map fun x =>
               if x.state = .disabled then x else { x with state := .clear, counter := 0 }) ∧
           t.marks.limit[l] =
             (s.marks.limit[l] ||
               decide ((t.limits[l]).map (·.state) ≠ (s.limits[l]).map (·.state)))) ∧
       (∀ p : Fin 16,
         t.apods[p] =
           if s.apods[p].slot = none then s.apods[p]
           else { s.apods[p] with slot := none, unpaired := satInc max32 s.apods[p].unpaired }) ∧
       ∀ r : RecordId, s.marks.get r = true → t.marks.get r = true) ∧
    (∀ s : State, s.inReset = false →
       let done :=
         s.port.phase = .working ∧ s.port.restartTaken = true ∧
           ¬(s.round.restarting = true ∧ s.plan.roundState = .clear)
       let bit := if s.hall.busSpeed = .kbit100 then 400 else 100
       let port : Port :=
         { s.port with
           phase := .answer, held := some { status := .ok, payload := [], readOf := none }, work := none,
           restartTaken := false }
       (done → s.round.restarting = false → exec .restartComplete s = .next { s with port := port }) ∧
         (done → s.round.restarting = true →
           exec .restartComplete s =
             .next
               { s with
                 clk := s.clk + bit
                 plan := { s.plan with roundState := .idle }
                 round := { s.round with restarting := false, busFree := s.clk + bit + bit }
                 port := port }) ∧
         (¬done → exec .restartComplete s = .next s) ∧
         (s.round.restarting = true → s.plan.roundState = .latch →
           endedLevels 0 s = ((List.range 8).map fun j => (0x00 : Byte).getMsbD j) ++ [true] ∧
             endedLevels 1 s =
               ((List.range 8).map fun j => (0x00 : Byte).getMsbD j) ++
                 true :: ((List.range 8).map fun j => (0x5C : Byte).getMsbD j) ++ [true]) ∧
         (∀ (p : Fin 12) (rest : List (Fin 12)), s.round.restarting = true → s.plan.roundState = .read →
           s.round.todo = p :: rest →
           let address := ((List.range 8).map fun j => (byte (2 * (0x30 + p.val) + 1)).getMsbD j) ++ [true]
           busLevels s = address ++ List.replicate 126 true ∧
             endedLevels 0 s = address ∧
             ∀ n : Nat, n < 14 →
               endedLevels (n + 1) s =
                 address ++ (List.range n).flatMap (fun _ => List.replicate 8 true ++ [false]) ++
                   List.replicate 9 true))

/-! ## The manual's laws, kept by every step -/

/-- R31, R32, R56, R57, R58: every step keeps the valve commands, integrators and compares within their bounds and a
ram out of ACTIVE at rest, with its lines low. -/
def Obligations.EveryStepKeepsTheValveLaws : Prop :=
  ∀ s t : State, ValveLaw s ∧ CompareLaw s → step s = .next t →
    ValveLaw t ∧ CompareLaw t ∧
      ∀ r : Fin 8, t.rams[r].state ≠ .active →
        valveEnable r t = false ∧ dumpLine r t = false ∧ t.rams[r].u = 0

/-- R29, R35, R53: every step keeps the relations of the RAM records, and a started ram's setpoint within its force
bounds. -/
def Obligations.EveryStepKeepsTheForceBounds : Prop :=
  ∀ s t : State, BoundsLaw s → step s = .next t → BoundsLaw t

/-- R14, R18, R22, R35 to R38: every step keeps trip_cause in step with the ram's state, a group with a TRIPPED ram
out of RUN, ENDING and PAUSE, and a group out of IDLE with an ACTIVE ram. -/
def Obligations.EveryStepKeepsTrippedGroupsStopped : Prop :=
  ∀ s t : State, CauseLaw s ∧ TrippedLaw s ∧ LoadedLaw s → step s = .next t →
    CauseLaw t ∧ TrippedLaw t ∧ LoadedLaw t

/-- R3, R4, R6, R18, R19: every step keeps each group's program: its cursor within its list, its steps filled out of
IDLE, a step entered throughout RUN and ENDING, the command of IDLE at the seat load. -/
def Obligations.EveryStepKeepsTheProgramRunnable : Prop :=
  ∀ s t : State, ProgramLaw s → step s = .next t → ProgramLaw t

/-- R20, R21, R147, R156, R165: every step keeps the limit records' relations, each group's severity and derate factor
those of the engaged limits that target it, and no group running against a limit that pauses it. -/
def Obligations.EveryStepKeepsLimitsInForce : Prop :=
  ∀ s t : State, LimitLaw s ∧ SeverityLaw s ∧ LoadedLaw s ∧ EngagedLaw s → step s = .next t →
    LimitLaw t ∧ SeverityLaw t ∧ LoadedLaw t ∧ EngagedLaw t

/-- R78, R79, R81, R82: every step keeps what a GAUGE record holds in each state, its strain between its peaks. R102,
R106, R111, R121: every step keeps the APOD records' states, positions and slots, and while no count saturates every
hit accounted for. -/
def Obligations.EveryStepKeepsGaugesAndPods : Prop :=
  (∀ s t : State, GaugeLaw s → step s = .next t → GaugeLaw t) ∧
    (∀ s t : State, PodLaw s ∧ HitLaw s → step s = .next t → PodLaw t ∧ HitLaw t)

/-- R126, R128: every step keeps each live crack record's position within its extent and its ref group the one whose
zone contains it. -/
def Obligations.EveryStepKeepsCracksInTheirZones : Prop :=
  ∀ s t : State, CrackLaw s ∧ RefLaw s → step s = .next t → CrackLaw t ∧ RefLaw t

/-- R63, R69 to R71: every step keeps the accounts of the round in flight: its list holds each pod once, in ascending
order, and the pods still to come are those after the ones handed over, so each of its pods is handed over exactly
once. -/
def Obligations.EveryStepKeepsTheRoundAccounts : Prop :=
  ∀ s t : State, RoundLaw s → step s = .next t → RoundLaw t

/-- R170 to R174: every step keeps the port in one of the states of Table 10-1 with what that state holds. -/
def Obligations.EveryStepKeepsThePortStates : Prop :=
  ∀ s t : State, PortLaw s → step s = .next t → PortLaw t

/-- Every law of the ten statements above holds at the release of reset, whatever levels stand on the two hall inputs. -/
def Obligations.EveryLawHoldsAtReset : Prop :=
  (∃ h e, State.reset = State.powerOn h e) ∧
    ∀ (hpu : HpuLevel) (estop : EstopLevel),
      let s := State.powerOn hpu estop
      ValveLaw s ∧ CompareLaw s ∧ BoundsLaw s ∧ CauseLaw s ∧ TrippedLaw s ∧ LoadedLaw s ∧ ProgramLaw s ∧
        LimitLaw s ∧ SeverityLaw s ∧ EngagedLaw s ∧ GaugeLaw s ∧ PodLaw s ∧ HitLaw s ∧ CrackLaw s ∧
        RefLaw s ∧ RoundLaw s ∧ PortLaw s


end
end

