-- ==== Sys2Proof/Laws/State.lean ====
section
/-! SUPPORT. What each named update of the state does to each field of the state: one lemma per field per update. -/

namespace Sys2Proof.Machine

@[simp] theorem passTo_clk (c : Nat) (s : State) : (passTo c s).clk = max s.clk c := rfl
@[simp] theorem passTo_ticks (c : Nat) (s : State) : (passTo c s).ticks = s.ticks := rfl
@[simp] theorem passTo_scanEnds (c : Nat) (s : State) : (passTo c s).scanEnds = s.scanEnds := rfl
@[simp] theorem passTo_sampled (c : Nat) (s : State) : (passTo c s).sampled = s.sampled := rfl
@[simp] theorem passTo_pulseStart (c : Nat) (s : State) : (passTo c s).pulseStart = s.pulseStart := rfl
@[simp] theorem passTo_inReset (c : Nat) (s : State) : (passTo c s).inReset = s.inReset := rfl
@[simp] theorem passTo_hall (c : Nat) (s : State) : (passTo c s).hall = s.hall := rfl
@[simp] theorem passTo_rams (c : Nat) (s : State) : (passTo c s).rams = s.rams := rfl
@[simp] theorem passTo_groups (c : Nat) (s : State) : (passTo c s).groups = s.groups := rfl
@[simp] theorem passTo_steps (c : Nat) (s : State) : (passTo c s).steps = s.steps := rfl
@[simp] theorem passTo_plan (c : Nat) (s : State) : (passTo c s).plan = s.plan := rfl
@[simp] theorem passTo_round (c : Nat) (s : State) : (passTo c s).round = s.round := rfl
@[simp] theorem passTo_gauges (c : Nat) (s : State) : (passTo c s).gauges = s.gauges := rfl
@[simp] theorem passTo_gpods (c : Nat) (s : State) : (passTo c s).gpods = s.gpods := rfl
@[simp] theorem passTo_apods (c : Nat) (s : State) : (passTo c s).apods = s.apods := rfl
@[simp] theorem passTo_line (c : Nat) (s : State) : (passTo c s).line = s.line := rfl
@[simp] theorem passTo_crackset (c : Nat) (s : State) : (passTo c s).crackset = s.crackset := rfl
@[simp] theorem passTo_cracks (c : Nat) (s : State) : (passTo c s).cracks = s.cracks := rfl
@[simp] theorem passTo_limits (c : Nat) (s : State) : (passTo c s).limits = s.limits := rfl
@[simp] theorem passTo_marks (c : Nat) (s : State) : (passTo c s).marks = s.marks := rfl
@[simp] theorem passTo_port (c : Nat) (s : State) : (passTo c s).port = s.port := rfl
@[simp] theorem passTo_pending (c : Nat) (s : State) : (passTo c s).pending = s.pending := rfl

@[simp] theorem mark_clk (i : RecordId) (s : State) : (mark i s).clk = s.clk := rfl
@[simp] theorem mark_ticks (i : RecordId) (s : State) : (mark i s).ticks = s.ticks := rfl
@[simp] theorem mark_scanEnds (i : RecordId) (s : State) : (mark i s).scanEnds = s.scanEnds := rfl
@[simp] theorem mark_sampled (i : RecordId) (s : State) : (mark i s).sampled = s.sampled := rfl
@[simp] theorem mark_pulseStart (i : RecordId) (s : State) : (mark i s).pulseStart = s.pulseStart := rfl
@[simp] theorem mark_inReset (i : RecordId) (s : State) : (mark i s).inReset = s.inReset := rfl
@[simp] theorem mark_hall (i : RecordId) (s : State) : (mark i s).hall = s.hall := rfl
@[simp] theorem mark_rams (i : RecordId) (s : State) : (mark i s).rams = s.rams := rfl
@[simp] theorem mark_groups (i : RecordId) (s : State) : (mark i s).groups = s.groups := rfl
@[simp] theorem mark_steps (i : RecordId) (s : State) : (mark i s).steps = s.steps := rfl
@[simp] theorem mark_plan (i : RecordId) (s : State) : (mark i s).plan = s.plan := rfl
@[simp] theorem mark_round (i : RecordId) (s : State) : (mark i s).round = s.round := rfl
@[simp] theorem mark_gauges (i : RecordId) (s : State) : (mark i s).gauges = s.gauges := rfl
@[simp] theorem mark_gpods (i : RecordId) (s : State) : (mark i s).gpods = s.gpods := rfl
@[simp] theorem mark_apods (i : RecordId) (s : State) : (mark i s).apods = s.apods := rfl
@[simp] theorem mark_line (i : RecordId) (s : State) : (mark i s).line = s.line := rfl
@[simp] theorem mark_crackset (i : RecordId) (s : State) : (mark i s).crackset = s.crackset := rfl
@[simp] theorem mark_cracks (i : RecordId) (s : State) : (mark i s).cracks = s.cracks := rfl
@[simp] theorem mark_limits (i : RecordId) (s : State) : (mark i s).limits = s.limits := rfl
@[simp] theorem mark_marks (i : RecordId) (s : State) : (mark i s).marks = s.marks.put true i := rfl
@[simp] theorem mark_port (i : RecordId) (s : State) : (mark i s).port = s.port := rfl
@[simp] theorem mark_pending (i : RecordId) (s : State) : (mark i s).pending = s.pending := rfl

@[simp] theorem unmark_clk (i : RecordId) (s : State) : (unmark i s).clk = s.clk := rfl
@[simp] theorem unmark_ticks (i : RecordId) (s : State) : (unmark i s).ticks = s.ticks := rfl
@[simp] theorem unmark_scanEnds (i : RecordId) (s : State) : (unmark i s).scanEnds = s.scanEnds := rfl
@[simp] theorem unmark_sampled (i : RecordId) (s : State) : (unmark i s).sampled = s.sampled := rfl
@[simp] theorem unmark_pulseStart (i : RecordId) (s : State) : (unmark i s).pulseStart = s.pulseStart := rfl
@[simp] theorem unmark_inReset (i : RecordId) (s : State) : (unmark i s).inReset = s.inReset := rfl
@[simp] theorem unmark_hall (i : RecordId) (s : State) : (unmark i s).hall = s.hall := rfl
@[simp] theorem unmark_rams (i : RecordId) (s : State) : (unmark i s).rams = s.rams := rfl
@[simp] theorem unmark_groups (i : RecordId) (s : State) : (unmark i s).groups = s.groups := rfl
@[simp] theorem unmark_steps (i : RecordId) (s : State) : (unmark i s).steps = s.steps := rfl
@[simp] theorem unmark_plan (i : RecordId) (s : State) : (unmark i s).plan = s.plan := rfl
@[simp] theorem unmark_round (i : RecordId) (s : State) : (unmark i s).round = s.round := rfl
@[simp] theorem unmark_gauges (i : RecordId) (s : State) : (unmark i s).gauges = s.gauges := rfl
@[simp] theorem unmark_gpods (i : RecordId) (s : State) : (unmark i s).gpods = s.gpods := rfl
@[simp] theorem unmark_apods (i : RecordId) (s : State) : (unmark i s).apods = s.apods := rfl
@[simp] theorem unmark_line (i : RecordId) (s : State) : (unmark i s).line = s.line := rfl
@[simp] theorem unmark_crackset (i : RecordId) (s : State) : (unmark i s).crackset = s.crackset := rfl
@[simp] theorem unmark_cracks (i : RecordId) (s : State) : (unmark i s).cracks = s.cracks := rfl
@[simp] theorem unmark_limits (i : RecordId) (s : State) : (unmark i s).limits = s.limits := rfl
@[simp] theorem unmark_marks (i : RecordId) (s : State) : (unmark i s).marks = s.marks.put false i := rfl
@[simp] theorem unmark_port (i : RecordId) (s : State) : (unmark i s).port = s.port := rfl
@[simp] theorem unmark_pending (i : RecordId) (s : State) : (unmark i s).pending = s.pending := rfl

@[simp] theorem markIf_clk (b : Bool) (i : RecordId) (s : State) :
    (markIf b i s).clk = s.clk := by unfold markIf; split <;> rfl
@[simp] theorem markIf_ticks (b : Bool) (i : RecordId) (s : State) :
    (markIf b i s).ticks = s.ticks := by unfold markIf; split <;> rfl
@[simp] theorem markIf_scanEnds (b : Bool) (i : RecordId) (s : State) :
    (markIf b i s).scanEnds = s.scanEnds := by unfold markIf; split <;> rfl
@[simp] theorem markIf_sampled (b : Bool) (i : RecordId) (s : State) :
    (markIf b i s).sampled = s.sampled := by unfold markIf; split <;> rfl
@[simp] theorem markIf_pulseStart (b : Bool) (i : RecordId) (s : State) :
    (markIf b i s).pulseStart = s.pulseStart := by unfold markIf; split <;> rfl
@[simp] theorem markIf_inReset (b : Bool) (i : RecordId) (s : State) :
    (markIf b i s).inReset = s.inReset := by unfold markIf; split <;> rfl
@[simp] theorem markIf_hall (b : Bool) (i : RecordId) (s : State) :
    (markIf b i s).hall = s.hall := by unfold markIf; split <;> rfl
@[simp] theorem markIf_rams (b : Bool) (i : RecordId) (s : State) :
    (markIf b i s).rams = s.rams := by unfold markIf; split <;> rfl
@[simp] theorem markIf_groups (b : Bool) (i : RecordId) (s : State) :
    (markIf b i s).groups = s.groups := by unfold markIf; split <;> rfl
@[simp] theorem markIf_steps (b : Bool) (i : RecordId) (s : State) :
    (markIf b i s).steps = s.steps := by unfold markIf; split <;> rfl
@[simp] theorem markIf_plan (b : Bool) (i : RecordId) (s : State) :
    (markIf b i s).plan = s.plan := by unfold markIf; split <;> rfl
@[simp] theorem markIf_round (b : Bool) (i : RecordId) (s : State) :
    (markIf b i s).round = s.round := by unfold markIf; split <;> rfl
@[simp] theorem markIf_gauges (b : Bool) (i : RecordId) (s : State) :
    (markIf b i s).gauges = s.gauges := by unfold markIf; split <;> rfl
@[simp] theorem markIf_gpods (b : Bool) (i : RecordId) (s : State) :
    (markIf b i s).gpods = s.gpods := by unfold markIf; split <;> rfl
@[simp] theorem markIf_apods (b : Bool) (i : RecordId) (s : State) :
    (markIf b i s).apods = s.apods := by unfold markIf; split <;> rfl
@[simp] theorem markIf_line (b : Bool) (i : RecordId) (s : State) :
    (markIf b i s).line = s.line := by unfold markIf; split <;> rfl
@[simp] theorem markIf_crackset (b : Bool) (i : RecordId) (s : State) :
    (markIf b i s).crackset = s.crackset := by unfold markIf; split <;> rfl
@[simp] theorem markIf_cracks (b : Bool) (i : RecordId) (s : State) :
    (markIf b i s).cracks = s.cracks := by unfold markIf; split <;> rfl
@[simp] theorem markIf_limits (b : Bool) (i : RecordId) (s : State) :
    (markIf b i s).limits = s.limits := by unfold markIf; split <;> rfl
@[simp] theorem markIf_marks (b : Bool) (i : RecordId) (s : State) :
    (markIf b i s).marks = if b then s.marks.put true i else s.marks := by unfold markIf; split <;> rfl
@[simp] theorem markIf_port (b : Bool) (i : RecordId) (s : State) :
    (markIf b i s).port = s.port := by unfold markIf; split <;> rfl
@[simp] theorem markIf_pending (b : Bool) (i : RecordId) (s : State) :
    (markIf b i s).pending = s.pending := by unfold markIf; split <;> rfl

@[simp] theorem setRam_clk (r : Fin 8) (x : Ram) (s : State) : (setRam r x s).clk = s.clk := rfl
@[simp] theorem setRam_ticks (r : Fin 8) (x : Ram) (s : State) : (setRam r x s).ticks = s.ticks := rfl
@[simp] theorem setRam_scanEnds (r : Fin 8) (x : Ram) (s : State) :
    (setRam r x s).scanEnds = s.scanEnds := rfl
@[simp] theorem setRam_sampled (r : Fin 8) (x : Ram) (s : State) : (setRam r x s).sampled = s.sampled := rfl
@[simp] theorem setRam_pulseStart (r : Fin 8) (x : Ram) (s : State) :
    (setRam r x s).pulseStart = s.pulseStart := rfl
@[simp] theorem setRam_inReset (r : Fin 8) (x : Ram) (s : State) : (setRam r x s).inReset = s.inReset := rfl
@[simp] theorem setRam_hall (r : Fin 8) (x : Ram) (s : State) : (setRam r x s).hall = s.hall := rfl
@[simp] theorem setRam_rams (r : Fin 8) (x : Ram) (s : State) : (setRam r x s).rams = s.rams.set r x := rfl
@[simp] theorem setRam_groups (r : Fin 8) (x : Ram) (s : State) : (setRam r x s).groups = s.groups := rfl
@[simp] theorem setRam_steps (r : Fin 8) (x : Ram) (s : State) : (setRam r x s).steps = s.steps := rfl
@[simp] theorem setRam_plan (r : Fin 8) (x : Ram) (s : State) : (setRam r x s).plan = s.plan := rfl
@[simp] theorem setRam_round (r : Fin 8) (x : Ram) (s : State) : (setRam r x s).round = s.round := rfl
@[simp] theorem setRam_gauges (r : Fin 8) (x : Ram) (s : State) : (setRam r x s).gauges = s.gauges := rfl
@[simp] theorem setRam_gpods (r : Fin 8) (x : Ram) (s : State) : (setRam r x s).gpods = s.gpods := rfl
@[simp] theorem setRam_apods (r : Fin 8) (x : Ram) (s : State) : (setRam r x s).apods = s.apods := rfl
@[simp] theorem setRam_line (r : Fin 8) (x : Ram) (s : State) : (setRam r x s).line = s.line := rfl
@[simp] theorem setRam_crackset (r : Fin 8) (x : Ram) (s : State) :
    (setRam r x s).crackset = s.crackset := rfl
@[simp] theorem setRam_cracks (r : Fin 8) (x : Ram) (s : State) : (setRam r x s).cracks = s.cracks := rfl
@[simp] theorem setRam_limits (r : Fin 8) (x : Ram) (s : State) : (setRam r x s).limits = s.limits := rfl
@[simp] theorem setRam_marks (r : Fin 8) (x : Ram) (s : State) : (setRam r x s).marks = s.marks := rfl
@[simp] theorem setRam_port (r : Fin 8) (x : Ram) (s : State) : (setRam r x s).port = s.port := rfl
@[simp] theorem setRam_pending (r : Fin 8) (x : Ram) (s : State) : (setRam r x s).pending = s.pending := rfl

@[simp] theorem setStep_clk (i : Fin 64) (x : StepRec) (s : State) : (setStep i x s).clk = s.clk := rfl
@[simp] theorem setStep_ticks (i : Fin 64) (x : StepRec) (s : State) : (setStep i x s).ticks = s.ticks := rfl
@[simp] theorem setStep_scanEnds (i : Fin 64) (x : StepRec) (s : State) :
    (setStep i x s).scanEnds = s.scanEnds := rfl
@[simp] theorem setStep_sampled (i : Fin 64) (x : StepRec) (s : State) :
    (setStep i x s).sampled = s.sampled := rfl
@[simp] theorem setStep_pulseStart (i : Fin 64) (x : StepRec) (s : State) :
    (setStep i x s).pulseStart = s.pulseStart := rfl
@[simp] theorem setStep_inReset (i : Fin 64) (x : StepRec) (s : State) :
    (setStep i x s).inReset = s.inReset := rfl
@[simp] theorem setStep_hall (i : Fin 64) (x : StepRec) (s : State) : (setStep i x s).hall = s.hall := rfl
@[simp] theorem setStep_rams (i : Fin 64) (x : StepRec) (s : State) : (setStep i x s).rams = s.rams := rfl
@[simp] theorem setStep_groups (i : Fin 64) (x : StepRec) (s : State) :
    (setStep i x s).groups = s.groups := rfl
@[simp] theorem setStep_steps (i : Fin 64) (x : StepRec) (s : State) :
    (setStep i x s).steps = s.steps.set i x := rfl
@[simp] theorem setStep_plan (i : Fin 64) (x : StepRec) (s : State) : (setStep i x s).plan = s.plan := rfl
@[simp] theorem setStep_round (i : Fin 64) (x : StepRec) (s : State) : (setStep i x s).round = s.round := rfl
@[simp] theorem setStep_gauges (i : Fin 64) (x : StepRec) (s : State) :
    (setStep i x s).gauges = s.gauges := rfl
@[simp] theorem setStep_gpods (i : Fin 64) (x : StepRec) (s : State) : (setStep i x s).gpods = s.gpods := rfl
@[simp] theorem setStep_apods (i : Fin 64) (x : StepRec) (s : State) : (setStep i x s).apods = s.apods := rfl
@[simp] theorem setStep_line (i : Fin 64) (x : StepRec) (s : State) : (setStep i x s).line = s.line := rfl
@[simp] theorem setStep_crackset (i : Fin 64) (x : StepRec) (s : State) :
    (setStep i x s).crackset = s.crackset := rfl
@[simp] theorem setStep_cracks (i : Fin 64) (x : StepRec) (s : State) :
    (setStep i x s).cracks = s.cracks := rfl
@[simp] theorem setStep_limits (i : Fin 64) (x : StepRec) (s : State) :
    (setStep i x s).limits = s.limits := rfl
@[simp] theorem setStep_marks (i : Fin 64) (x : StepRec) (s : State) : (setStep i x s).marks = s.marks := rfl
@[simp] theorem setStep_port (i : Fin 64) (x : StepRec) (s : State) : (setStep i x s).port = s.port := rfl
@[simp] theorem setStep_pending (i : Fin 64) (x : StepRec) (s : State) :
    (setStep i x s).pending = s.pending := rfl

@[simp] theorem setPlan_clk (x : Plan) (s : State) : (setPlan x s).clk = s.clk := rfl
@[simp] theorem setPlan_ticks (x : Plan) (s : State) : (setPlan x s).ticks = s.ticks := rfl
@[simp] theorem setPlan_scanEnds (x : Plan) (s : State) : (setPlan x s).scanEnds = s.scanEnds := rfl
@[simp] theorem setPlan_sampled (x : Plan) (s : State) : (setPlan x s).sampled = s.sampled := rfl
@[simp] theorem setPlan_pulseStart (x : Plan) (s : State) : (setPlan x s).pulseStart = s.pulseStart := rfl
@[simp] theorem setPlan_inReset (x : Plan) (s : State) : (setPlan x s).inReset = s.inReset := rfl
@[simp] theorem setPlan_hall (x : Plan) (s : State) : (setPlan x s).hall = s.hall := rfl
@[simp] theorem setPlan_rams (x : Plan) (s : State) : (setPlan x s).rams = s.rams := rfl
@[simp] theorem setPlan_groups (x : Plan) (s : State) : (setPlan x s).groups = s.groups := rfl
@[simp] theorem setPlan_steps (x : Plan) (s : State) : (setPlan x s).steps = s.steps := rfl
@[simp] theorem setPlan_plan (x : Plan) (s : State) : (setPlan x s).plan = x := rfl
@[simp] theorem setPlan_round (x : Plan) (s : State) : (setPlan x s).round = s.round := rfl
@[simp] theorem setPlan_gauges (x : Plan) (s : State) : (setPlan x s).gauges = s.gauges := rfl
@[simp] theorem setPlan_gpods (x : Plan) (s : State) : (setPlan x s).gpods = s.gpods := rfl
@[simp] theorem setPlan_apods (x : Plan) (s : State) : (setPlan x s).apods = s.apods := rfl
@[simp] theorem setPlan_line (x : Plan) (s : State) : (setPlan x s).line = s.line := rfl
@[simp] theorem setPlan_crackset (x : Plan) (s : State) : (setPlan x s).crackset = s.crackset := rfl
@[simp] theorem setPlan_cracks (x : Plan) (s : State) : (setPlan x s).cracks = s.cracks := rfl
@[simp] theorem setPlan_limits (x : Plan) (s : State) : (setPlan x s).limits = s.limits := rfl
@[simp] theorem setPlan_marks (x : Plan) (s : State) : (setPlan x s).marks = s.marks := rfl
@[simp] theorem setPlan_port (x : Plan) (s : State) : (setPlan x s).port = s.port := rfl
@[simp] theorem setPlan_pending (x : Plan) (s : State) : (setPlan x s).pending = s.pending := rfl

@[simp] theorem setRound_clk (x : Round) (s : State) : (setRound x s).clk = s.clk := rfl
@[simp] theorem setRound_ticks (x : Round) (s : State) : (setRound x s).ticks = s.ticks := rfl
@[simp] theorem setRound_scanEnds (x : Round) (s : State) : (setRound x s).scanEnds = s.scanEnds := rfl
@[simp] theorem setRound_sampled (x : Round) (s : State) : (setRound x s).sampled = s.sampled := rfl
@[simp] theorem setRound_pulseStart (x : Round) (s : State) : (setRound x s).pulseStart = s.pulseStart := rfl
@[simp] theorem setRound_inReset (x : Round) (s : State) : (setRound x s).inReset = s.inReset := rfl
@[simp] theorem setRound_hall (x : Round) (s : State) : (setRound x s).hall = s.hall := rfl
@[simp] theorem setRound_rams (x : Round) (s : State) : (setRound x s).rams = s.rams := rfl
@[simp] theorem setRound_groups (x : Round) (s : State) : (setRound x s).groups = s.groups := rfl
@[simp] theorem setRound_steps (x : Round) (s : State) : (setRound x s).steps = s.steps := rfl
@[simp] theorem setRound_plan (x : Round) (s : State) : (setRound x s).plan = s.plan := rfl
@[simp] theorem setRound_round (x : Round) (s : State) : (setRound x s).round = x := rfl
@[simp] theorem setRound_gauges (x : Round) (s : State) : (setRound x s).gauges = s.gauges := rfl
@[simp] theorem setRound_gpods (x : Round) (s : State) : (setRound x s).gpods = s.gpods := rfl
@[simp] theorem setRound_apods (x : Round) (s : State) : (setRound x s).apods = s.apods := rfl
@[simp] theorem setRound_line (x : Round) (s : State) : (setRound x s).line = s.line := rfl
@[simp] theorem setRound_crackset (x : Round) (s : State) : (setRound x s).crackset = s.crackset := rfl
@[simp] theorem setRound_cracks (x : Round) (s : State) : (setRound x s).cracks = s.cracks := rfl
@[simp] theorem setRound_limits (x : Round) (s : State) : (setRound x s).limits = s.limits := rfl
@[simp] theorem setRound_marks (x : Round) (s : State) : (setRound x s).marks = s.marks := rfl
@[simp] theorem setRound_port (x : Round) (s : State) : (setRound x s).port = s.port := rfl
@[simp] theorem setRound_pending (x : Round) (s : State) : (setRound x s).pending = s.pending := rfl

@[simp] theorem setLine_clk (x : Line) (s : State) : (setLine x s).clk = s.clk := rfl
@[simp] theorem setLine_ticks (x : Line) (s : State) : (setLine x s).ticks = s.ticks := rfl
@[simp] theorem setLine_scanEnds (x : Line) (s : State) : (setLine x s).scanEnds = s.scanEnds := rfl
@[simp] theorem setLine_sampled (x : Line) (s : State) : (setLine x s).sampled = s.sampled := rfl
@[simp] theorem setLine_pulseStart (x : Line) (s : State) : (setLine x s).pulseStart = s.pulseStart := rfl
@[simp] theorem setLine_inReset (x : Line) (s : State) : (setLine x s).inReset = s.inReset := rfl
@[simp] theorem setLine_hall (x : Line) (s : State) : (setLine x s).hall = s.hall := rfl
@[simp] theorem setLine_rams (x : Line) (s : State) : (setLine x s).rams = s.rams := rfl
@[simp] theorem setLine_groups (x : Line) (s : State) : (setLine x s).groups = s.groups := rfl
@[simp] theorem setLine_steps (x : Line) (s : State) : (setLine x s).steps = s.steps := rfl
@[simp] theorem setLine_plan (x : Line) (s : State) : (setLine x s).plan = s.plan := rfl
@[simp] theorem setLine_round (x : Line) (s : State) : (setLine x s).round = s.round := rfl
@[simp] theorem setLine_gauges (x : Line) (s : State) : (setLine x s).gauges = s.gauges := rfl
@[simp] theorem setLine_gpods (x : Line) (s : State) : (setLine x s).gpods = s.gpods := rfl
@[simp] theorem setLine_apods (x : Line) (s : State) : (setLine x s).apods = s.apods := rfl
@[simp] theorem setLine_line (x : Line) (s : State) : (setLine x s).line = x := rfl
@[simp] theorem setLine_crackset (x : Line) (s : State) : (setLine x s).crackset = s.crackset := rfl
@[simp] theorem setLine_cracks (x : Line) (s : State) : (setLine x s).cracks = s.cracks := rfl
@[simp] theorem setLine_limits (x : Line) (s : State) : (setLine x s).limits = s.limits := rfl
@[simp] theorem setLine_marks (x : Line) (s : State) : (setLine x s).marks = s.marks := rfl
@[simp] theorem setLine_port (x : Line) (s : State) : (setLine x s).port = s.port := rfl
@[simp] theorem setLine_pending (x : Line) (s : State) : (setLine x s).pending = s.pending := rfl

@[simp] theorem setAPod_clk (p : Fin 16) (x : APod) (s : State) : (setAPod p x s).clk = s.clk := rfl
@[simp] theorem setAPod_ticks (p : Fin 16) (x : APod) (s : State) : (setAPod p x s).ticks = s.ticks := rfl
@[simp] theorem setAPod_scanEnds (p : Fin 16) (x : APod) (s : State) :
    (setAPod p x s).scanEnds = s.scanEnds := rfl
@[simp] theorem setAPod_sampled (p : Fin 16) (x : APod) (s : State) :
    (setAPod p x s).sampled = s.sampled := rfl
@[simp] theorem setAPod_pulseStart (p : Fin 16) (x : APod) (s : State) :
    (setAPod p x s).pulseStart = s.pulseStart := rfl
@[simp] theorem setAPod_inReset (p : Fin 16) (x : APod) (s : State) :
    (setAPod p x s).inReset = s.inReset := rfl
@[simp] theorem setAPod_hall (p : Fin 16) (x : APod) (s : State) : (setAPod p x s).hall = s.hall := rfl
@[simp] theorem setAPod_rams (p : Fin 16) (x : APod) (s : State) : (setAPod p x s).rams = s.rams := rfl
@[simp] theorem setAPod_groups (p : Fin 16) (x : APod) (s : State) : (setAPod p x s).groups = s.groups := rfl
@[simp] theorem setAPod_steps (p : Fin 16) (x : APod) (s : State) : (setAPod p x s).steps = s.steps := rfl
@[simp] theorem setAPod_plan (p : Fin 16) (x : APod) (s : State) : (setAPod p x s).plan = s.plan := rfl
@[simp] theorem setAPod_round (p : Fin 16) (x : APod) (s : State) : (setAPod p x s).round = s.round := rfl
@[simp] theorem setAPod_gauges (p : Fin 16) (x : APod) (s : State) : (setAPod p x s).gauges = s.gauges := rfl
@[simp] theorem setAPod_gpods (p : Fin 16) (x : APod) (s : State) : (setAPod p x s).gpods = s.gpods := rfl
@[simp] theorem setAPod_apods (p : Fin 16) (x : APod) (s : State) :
    (setAPod p x s).apods = s.apods.set p x := rfl
@[simp] theorem setAPod_line (p : Fin 16) (x : APod) (s : State) : (setAPod p x s).line = s.line := rfl
@[simp] theorem setAPod_crackset (p : Fin 16) (x : APod) (s : State) :
    (setAPod p x s).crackset = s.crackset := rfl
@[simp] theorem setAPod_cracks (p : Fin 16) (x : APod) (s : State) : (setAPod p x s).cracks = s.cracks := rfl
@[simp] theorem setAPod_limits (p : Fin 16) (x : APod) (s : State) : (setAPod p x s).limits = s.limits := rfl
@[simp] theorem setAPod_marks (p : Fin 16) (x : APod) (s : State) : (setAPod p x s).marks = s.marks := rfl
@[simp] theorem setAPod_port (p : Fin 16) (x : APod) (s : State) : (setAPod p x s).port = s.port := rfl
@[simp] theorem setAPod_pending (p : Fin 16) (x : APod) (s : State) :
    (setAPod p x s).pending = s.pending := rfl

@[simp] theorem putGroup_clk (g : Fin 4) (x : Group) (s : State) :
    (putGroup g x s).clk = s.clk := by simp [putGroup]
@[simp] theorem putGroup_ticks (g : Fin 4) (x : Group) (s : State) :
    (putGroup g x s).ticks = s.ticks := by simp [putGroup]
@[simp] theorem putGroup_scanEnds (g : Fin 4) (x : Group) (s : State) :
    (putGroup g x s).scanEnds = s.scanEnds := by simp [putGroup]
@[simp] theorem putGroup_sampled (g : Fin 4) (x : Group) (s : State) :
    (putGroup g x s).sampled = s.sampled := by simp [putGroup]
@[simp] theorem putGroup_pulseStart (g : Fin 4) (x : Group) (s : State) :
    (putGroup g x s).pulseStart = s.pulseStart := by simp [putGroup]
@[simp] theorem putGroup_inReset (g : Fin 4) (x : Group) (s : State) :
    (putGroup g x s).inReset = s.inReset := by simp [putGroup]
@[simp] theorem putGroup_hall (g : Fin 4) (x : Group) (s : State) :
    (putGroup g x s).hall = s.hall := by simp [putGroup]
@[simp] theorem putGroup_rams (g : Fin 4) (x : Group) (s : State) :
    (putGroup g x s).rams = s.rams := by simp [putGroup]
@[simp] theorem putGroup_groups (g : Fin 4) (x : Group) (s : State) :
    (putGroup g x s).groups = s.groups.set g x := by simp [putGroup]
@[simp] theorem putGroup_steps (g : Fin 4) (x : Group) (s : State) :
    (putGroup g x s).steps = s.steps := by simp [putGroup]
@[simp] theorem putGroup_plan (g : Fin 4) (x : Group) (s : State) :
    (putGroup g x s).plan = s.plan := by simp [putGroup]
@[simp] theorem putGroup_round (g : Fin 4) (x : Group) (s : State) :
    (putGroup g x s).round = s.round := by simp [putGroup]
@[simp] theorem putGroup_gauges (g : Fin 4) (x : Group) (s : State) :
    (putGroup g x s).gauges = s.gauges := by simp [putGroup]
@[simp] theorem putGroup_gpods (g : Fin 4) (x : Group) (s : State) :
    (putGroup g x s).gpods = s.gpods := by simp [putGroup]
@[simp] theorem putGroup_apods (g : Fin 4) (x : Group) (s : State) :
    (putGroup g x s).apods = s.apods := by simp [putGroup]
@[simp] theorem putGroup_line (g : Fin 4) (x : Group) (s : State) :
    (putGroup g x s).line = s.line := by simp [putGroup]
@[simp] theorem putGroup_crackset (g : Fin 4) (x : Group) (s : State) :
    (putGroup g x s).crackset = s.crackset := by simp [putGroup]
@[simp] theorem putGroup_cracks (g : Fin 4) (x : Group) (s : State) :
    (putGroup g x s).cracks = s.cracks := by simp [putGroup]
@[simp] theorem putGroup_limits (g : Fin 4) (x : Group) (s : State) :
    (putGroup g x s).limits = s.limits := by simp [putGroup]
@[simp] theorem putGroup_port (g : Fin 4) (x : Group) (s : State) :
    (putGroup g x s).port = s.port := by simp [putGroup]
@[simp] theorem putGroup_pending (g : Fin 4) (x : Group) (s : State) :
    (putGroup g x s).pending = s.pending := by simp [putGroup]

@[simp] theorem putAPod_clk (p : Fin 16) (x : APod) (s : State) :
    (putAPod p x s).clk = s.clk := by simp [putAPod]
@[simp] theorem putAPod_ticks (p : Fin 16) (x : APod) (s : State) :
    (putAPod p x s).ticks = s.ticks := by simp [putAPod]
@[simp] theorem putAPod_scanEnds (p : Fin 16) (x : APod) (s : State) :
    (putAPod p x s).scanEnds = s.scanEnds := by simp [putAPod]
@[simp] theorem putAPod_sampled (p : Fin 16) (x : APod) (s : State) :
    (putAPod p x s).sampled = s.sampled := by simp [putAPod]
@[simp] theorem putAPod_pulseStart (p : Fin 16) (x : APod) (s : State) :
    (putAPod p x s).pulseStart = s.pulseStart := by simp [putAPod]
@[simp] theorem putAPod_inReset (p : Fin 16) (x : APod) (s : State) :
    (putAPod p x s).inReset = s.inReset := by simp [putAPod]
@[simp] theorem putAPod_hall (p : Fin 16) (x : APod) (s : State) :
    (putAPod p x s).hall = s.hall := by simp [putAPod]
@[simp] theorem putAPod_rams (p : Fin 16) (x : APod) (s : State) :
    (putAPod p x s).rams = s.rams := by simp [putAPod]
@[simp] theorem putAPod_groups (p : Fin 16) (x : APod) (s : State) :
    (putAPod p x s).groups = s.groups := by simp [putAPod]
@[simp] theorem putAPod_steps (p : Fin 16) (x : APod) (s : State) :
    (putAPod p x s).steps = s.steps := by simp [putAPod]
@[simp] theorem putAPod_plan (p : Fin 16) (x : APod) (s : State) :
    (putAPod p x s).plan = s.plan := by simp [putAPod]
@[simp] theorem putAPod_round (p : Fin 16) (x : APod) (s : State) :
    (putAPod p x s).round = s.round := by simp [putAPod]
@[simp] theorem putAPod_gauges (p : Fin 16) (x : APod) (s : State) :
    (putAPod p x s).gauges = s.gauges := by simp [putAPod]
@[simp] theorem putAPod_gpods (p : Fin 16) (x : APod) (s : State) :
    (putAPod p x s).gpods = s.gpods := by simp [putAPod]
@[simp] theorem putAPod_apods (p : Fin 16) (x : APod) (s : State) :
    (putAPod p x s).apods = s.apods.set p x := by simp [putAPod]
@[simp] theorem putAPod_line (p : Fin 16) (x : APod) (s : State) :
    (putAPod p x s).line = s.line := by simp [putAPod]
@[simp] theorem putAPod_crackset (p : Fin 16) (x : APod) (s : State) :
    (putAPod p x s).crackset = s.crackset := by simp [putAPod]
@[simp] theorem putAPod_cracks (p : Fin 16) (x : APod) (s : State) :
    (putAPod p x s).cracks = s.cracks := by simp [putAPod]
@[simp] theorem putAPod_limits (p : Fin 16) (x : APod) (s : State) :
    (putAPod p x s).limits = s.limits := by simp [putAPod]
@[simp] theorem putAPod_port (p : Fin 16) (x : APod) (s : State) :
    (putAPod p x s).port = s.port := by simp [putAPod]
@[simp] theorem putAPod_pending (p : Fin 16) (x : APod) (s : State) :
    (putAPod p x s).pending = s.pending := by simp [putAPod]

@[simp] theorem putLimit_clk (l : Fin 24) (x : Option Limit) (s : State) :
    (putLimit l x s).clk = s.clk := by simp [putLimit]
@[simp] theorem putLimit_ticks (l : Fin 24) (x : Option Limit) (s : State) :
    (putLimit l x s).ticks = s.ticks := by simp [putLimit]
@[simp] theorem putLimit_scanEnds (l : Fin 24) (x : Option Limit) (s : State) :
    (putLimit l x s).scanEnds = s.scanEnds := by simp [putLimit]
@[simp] theorem putLimit_sampled (l : Fin 24) (x : Option Limit) (s : State) :
    (putLimit l x s).sampled = s.sampled := by simp [putLimit]
@[simp] theorem putLimit_pulseStart (l : Fin 24) (x : Option Limit) (s : State) :
    (putLimit l x s).pulseStart = s.pulseStart := by simp [putLimit]
@[simp] theorem putLimit_inReset (l : Fin 24) (x : Option Limit) (s : State) :
    (putLimit l x s).inReset = s.inReset := by simp [putLimit]
@[simp] theorem putLimit_hall (l : Fin 24) (x : Option Limit) (s : State) :
    (putLimit l x s).hall = s.hall := by simp [putLimit]
@[simp] theorem putLimit_rams (l : Fin 24) (x : Option Limit) (s : State) :
    (putLimit l x s).rams = s.rams := by simp [putLimit]
@[simp] theorem putLimit_groups (l : Fin 24) (x : Option Limit) (s : State) :
    (putLimit l x s).groups = s.groups := by simp [putLimit]
@[simp] theorem putLimit_steps (l : Fin 24) (x : Option Limit) (s : State) :
    (putLimit l x s).steps = s.steps := by simp [putLimit]
@[simp] theorem putLimit_plan (l : Fin 24) (x : Option Limit) (s : State) :
    (putLimit l x s).plan = s.plan := by simp [putLimit]
@[simp] theorem putLimit_round (l : Fin 24) (x : Option Limit) (s : State) :
    (putLimit l x s).round = s.round := by simp [putLimit]
@[simp] theorem putLimit_gauges (l : Fin 24) (x : Option Limit) (s : State) :
    (putLimit l x s).gauges = s.gauges := by simp [putLimit]
@[simp] theorem putLimit_gpods (l : Fin 24) (x : Option Limit) (s : State) :
    (putLimit l x s).gpods = s.gpods := by simp [putLimit]
@[simp] theorem putLimit_apods (l : Fin 24) (x : Option Limit) (s : State) :
    (putLimit l x s).apods = s.apods := by simp [putLimit]
@[simp] theorem putLimit_line (l : Fin 24) (x : Option Limit) (s : State) :
    (putLimit l x s).line = s.line := by simp [putLimit]
@[simp] theorem putLimit_crackset (l : Fin 24) (x : Option Limit) (s : State) :
    (putLimit l x s).crackset = s.crackset := by simp [putLimit]
@[simp] theorem putLimit_cracks (l : Fin 24) (x : Option Limit) (s : State) :
    (putLimit l x s).cracks = s.cracks := by simp [putLimit]
@[simp] theorem putLimit_limits (l : Fin 24) (x : Option Limit) (s : State) :
    (putLimit l x s).limits = s.limits.set l x := by simp [putLimit]
@[simp] theorem putLimit_port (l : Fin 24) (x : Option Limit) (s : State) :
    (putLimit l x s).port = s.port := by simp [putLimit]
@[simp] theorem putLimit_pending (l : Fin 24) (x : Option Limit) (s : State) :
    (putLimit l x s).pending = s.pending := by simp [putLimit]

@[simp] theorem putCrack_clk (c : Fin 32) (x : Option Crack) (s : State) :
    (putCrack c x s).clk = s.clk := by simp [putCrack]
@[simp] theorem putCrack_ticks (c : Fin 32) (x : Option Crack) (s : State) :
    (putCrack c x s).ticks = s.ticks := by simp [putCrack]
@[simp] theorem putCrack_scanEnds (c : Fin 32) (x : Option Crack) (s : State) :
    (putCrack c x s).scanEnds = s.scanEnds := by simp [putCrack]
@[simp] theorem putCrack_sampled (c : Fin 32) (x : Option Crack) (s : State) :
    (putCrack c x s).sampled = s.sampled := by simp [putCrack]
@[simp] theorem putCrack_pulseStart (c : Fin 32) (x : Option Crack) (s : State) :
    (putCrack c x s).pulseStart = s.pulseStart := by simp [putCrack]
@[simp] theorem putCrack_inReset (c : Fin 32) (x : Option Crack) (s : State) :
    (putCrack c x s).inReset = s.inReset := by simp [putCrack]
@[simp] theorem putCrack_hall (c : Fin 32) (x : Option Crack) (s : State) :
    (putCrack c x s).hall = s.hall := by simp [putCrack]
@[simp] theorem putCrack_rams (c : Fin 32) (x : Option Crack) (s : State) :
    (putCrack c x s).rams = s.rams := by simp [putCrack]
@[simp] theorem putCrack_groups (c : Fin 32) (x : Option Crack) (s : State) :
    (putCrack c x s).groups = s.groups := by simp [putCrack]
@[simp] theorem putCrack_steps (c : Fin 32) (x : Option Crack) (s : State) :
    (putCrack c x s).steps = s.steps := by simp [putCrack]
@[simp] theorem putCrack_plan (c : Fin 32) (x : Option Crack) (s : State) :
    (putCrack c x s).plan = s.plan := by simp [putCrack]
@[simp] theorem putCrack_round (c : Fin 32) (x : Option Crack) (s : State) :
    (putCrack c x s).round = s.round := by simp [putCrack]
@[simp] theorem putCrack_gauges (c : Fin 32) (x : Option Crack) (s : State) :
    (putCrack c x s).gauges = s.gauges := by simp [putCrack]
@[simp] theorem putCrack_gpods (c : Fin 32) (x : Option Crack) (s : State) :
    (putCrack c x s).gpods = s.gpods := by simp [putCrack]
@[simp] theorem putCrack_apods (c : Fin 32) (x : Option Crack) (s : State) :
    (putCrack c x s).apods = s.apods := by simp [putCrack]
@[simp] theorem putCrack_line (c : Fin 32) (x : Option Crack) (s : State) :
    (putCrack c x s).line = s.line := by simp [putCrack]
@[simp] theorem putCrack_crackset (c : Fin 32) (x : Option Crack) (s : State) :
    (putCrack c x s).crackset = s.crackset := by simp [putCrack]
@[simp] theorem putCrack_cracks (c : Fin 32) (x : Option Crack) (s : State) :
    (putCrack c x s).cracks = s.cracks.set c x := by simp [putCrack]
@[simp] theorem putCrack_limits (c : Fin 32) (x : Option Crack) (s : State) :
    (putCrack c x s).limits = s.limits := by simp [putCrack]
@[simp] theorem putCrack_port (c : Fin 32) (x : Option Crack) (s : State) :
    (putCrack c x s).port = s.port := by simp [putCrack]
@[simp] theorem putCrack_pending (c : Fin 32) (x : Option Crack) (s : State) :
    (putCrack c x s).pending = s.pending := by simp [putCrack]

@[simp] theorem stopSent_clk (s : State) : (stopSent s).clk = s.clk := rfl
@[simp] theorem stopSent_ticks (s : State) : (stopSent s).ticks = s.ticks := rfl
@[simp] theorem stopSent_scanEnds (s : State) : (stopSent s).scanEnds = s.scanEnds := rfl
@[simp] theorem stopSent_sampled (s : State) : (stopSent s).sampled = s.sampled := rfl
@[simp] theorem stopSent_pulseStart (s : State) : (stopSent s).pulseStart = s.pulseStart := rfl
@[simp] theorem stopSent_inReset (s : State) : (stopSent s).inReset = s.inReset := rfl
@[simp] theorem stopSent_hall (s : State) : (stopSent s).hall = s.hall := rfl
@[simp] theorem stopSent_rams (s : State) : (stopSent s).rams = s.rams := rfl
@[simp] theorem stopSent_groups (s : State) : (stopSent s).groups = s.groups := rfl
@[simp] theorem stopSent_steps (s : State) : (stopSent s).steps = s.steps := rfl
@[simp] theorem stopSent_plan (s : State) : (stopSent s).plan = s.plan := rfl
@[simp] theorem stopSent_round (s : State) :
    (stopSent s).round = { s.round with busFree := s.clk + busBit s } := rfl
@[simp] theorem stopSent_gauges (s : State) : (stopSent s).gauges = s.gauges := rfl
@[simp] theorem stopSent_gpods (s : State) : (stopSent s).gpods = s.gpods := rfl
@[simp] theorem stopSent_apods (s : State) : (stopSent s).apods = s.apods := rfl
@[simp] theorem stopSent_line (s : State) : (stopSent s).line = s.line := rfl
@[simp] theorem stopSent_crackset (s : State) : (stopSent s).crackset = s.crackset := rfl
@[simp] theorem stopSent_cracks (s : State) : (stopSent s).cracks = s.cracks := rfl
@[simp] theorem stopSent_limits (s : State) : (stopSent s).limits = s.limits := rfl
@[simp] theorem stopSent_marks (s : State) : (stopSent s).marks = s.marks := rfl
@[simp] theorem stopSent_port (s : State) : (stopSent s).port = s.port := rfl
@[simp] theorem stopSent_pending (s : State) : (stopSent s).pending = s.pending := rfl

@[simp] theorem beginPoll_clk (p : Fin 16) (s : State) : (beginPoll p s).clk = s.clk := rfl
@[simp] theorem beginPoll_ticks (p : Fin 16) (s : State) : (beginPoll p s).ticks = s.ticks := rfl
@[simp] theorem beginPoll_scanEnds (p : Fin 16) (s : State) : (beginPoll p s).scanEnds = s.scanEnds := rfl
@[simp] theorem beginPoll_sampled (p : Fin 16) (s : State) : (beginPoll p s).sampled = s.sampled := rfl
@[simp] theorem beginPoll_pulseStart (p : Fin 16) (s : State) :
    (beginPoll p s).pulseStart = s.pulseStart := rfl
@[simp] theorem beginPoll_inReset (p : Fin 16) (s : State) : (beginPoll p s).inReset = s.inReset := rfl
@[simp] theorem beginPoll_hall (p : Fin 16) (s : State) : (beginPoll p s).hall = s.hall := rfl
@[simp] theorem beginPoll_rams (p : Fin 16) (s : State) : (beginPoll p s).rams = s.rams := rfl
@[simp] theorem beginPoll_groups (p : Fin 16) (s : State) : (beginPoll p s).groups = s.groups := rfl
@[simp] theorem beginPoll_steps (p : Fin 16) (s : State) : (beginPoll p s).steps = s.steps := rfl
@[simp] theorem beginPoll_plan (p : Fin 16) (s : State) : (beginPoll p s).plan = s.plan := rfl
@[simp] theorem beginPoll_round (p : Fin 16) (s : State) : (beginPoll p s).round = s.round := rfl
@[simp] theorem beginPoll_gauges (p : Fin 16) (s : State) : (beginPoll p s).gauges = s.gauges := rfl
@[simp] theorem beginPoll_gpods (p : Fin 16) (s : State) : (beginPoll p s).gpods = s.gpods := rfl
@[simp] theorem beginPoll_apods (p : Fin 16) (s : State) : (beginPoll p s).apods = s.apods := rfl
@[simp] theorem beginPoll_line (p : Fin 16) (s : State) :
    (beginPoll p s).line = { s.line with frame := .poll p s.clk true } := rfl
@[simp] theorem beginPoll_crackset (p : Fin 16) (s : State) : (beginPoll p s).crackset = s.crackset := rfl
@[simp] theorem beginPoll_cracks (p : Fin 16) (s : State) : (beginPoll p s).cracks = s.cracks := rfl
@[simp] theorem beginPoll_limits (p : Fin 16) (s : State) : (beginPoll p s).limits = s.limits := rfl
@[simp] theorem beginPoll_marks (p : Fin 16) (s : State) : (beginPoll p s).marks = s.marks := rfl
@[simp] theorem beginPoll_port (p : Fin 16) (s : State) : (beginPoll p s).port = s.port := rfl
@[simp] theorem beginPoll_pending (p : Fin 16) (s : State) : (beginPoll p s).pending = s.pending := rfl

@[simp] theorem beginTime_clk (s : State) : (beginTime s).clk = s.clk := rfl
@[simp] theorem beginTime_ticks (s : State) : (beginTime s).ticks = s.ticks := rfl
@[simp] theorem beginTime_scanEnds (s : State) : (beginTime s).scanEnds = s.scanEnds := rfl
@[simp] theorem beginTime_sampled (s : State) : (beginTime s).sampled = s.sampled := rfl
@[simp] theorem beginTime_pulseStart (s : State) : (beginTime s).pulseStart = s.pulseStart := rfl
@[simp] theorem beginTime_inReset (s : State) : (beginTime s).inReset = s.inReset := rfl
@[simp] theorem beginTime_hall (s : State) : (beginTime s).hall = s.hall := rfl
@[simp] theorem beginTime_rams (s : State) : (beginTime s).rams = s.rams := rfl
@[simp] theorem beginTime_groups (s : State) : (beginTime s).groups = s.groups := rfl
@[simp] theorem beginTime_steps (s : State) : (beginTime s).steps = s.steps := rfl
@[simp] theorem beginTime_plan (s : State) : (beginTime s).plan = s.plan := rfl
@[simp] theorem beginTime_round (s : State) : (beginTime s).round = s.round := rfl
@[simp] theorem beginTime_gauges (s : State) : (beginTime s).gauges = s.gauges := rfl
@[simp] theorem beginTime_gpods (s : State) : (beginTime s).gpods = s.gpods := rfl
@[simp] theorem beginTime_apods (s : State) : (beginTime s).apods = s.apods := rfl
@[simp] theorem beginTime_line (s : State) :
    (beginTime s).line = { s.line with frame := .time s.clk, timeDue := false } := rfl
@[simp] theorem beginTime_crackset (s : State) : (beginTime s).crackset = s.crackset := rfl
@[simp] theorem beginTime_cracks (s : State) : (beginTime s).cracks = s.cracks := rfl
@[simp] theorem beginTime_limits (s : State) : (beginTime s).limits = s.limits := rfl
@[simp] theorem beginTime_marks (s : State) : (beginTime s).marks = s.marks := rfl
@[simp] theorem beginTime_port (s : State) : (beginTime s).port = s.port := rfl
@[simp] theorem beginTime_pending (s : State) : (beginTime s).pending = s.pending := rfl

@[simp] theorem beginQuiet_clk (b : Nat) (s : State) : (beginQuiet b s).clk = s.clk := rfl
@[simp] theorem beginQuiet_ticks (b : Nat) (s : State) : (beginQuiet b s).ticks = s.ticks := rfl
@[simp] theorem beginQuiet_scanEnds (b : Nat) (s : State) : (beginQuiet b s).scanEnds = s.scanEnds := rfl
@[simp] theorem beginQuiet_sampled (b : Nat) (s : State) : (beginQuiet b s).sampled = s.sampled := rfl
@[simp] theorem beginQuiet_pulseStart (b : Nat) (s : State) :
    (beginQuiet b s).pulseStart = s.pulseStart := rfl
@[simp] theorem beginQuiet_inReset (b : Nat) (s : State) : (beginQuiet b s).inReset = s.inReset := rfl
@[simp] theorem beginQuiet_hall (b : Nat) (s : State) : (beginQuiet b s).hall = s.hall := rfl
@[simp] theorem beginQuiet_rams (b : Nat) (s : State) : (beginQuiet b s).rams = s.rams := rfl
@[simp] theorem beginQuiet_groups (b : Nat) (s : State) : (beginQuiet b s).groups = s.groups := rfl
@[simp] theorem beginQuiet_steps (b : Nat) (s : State) : (beginQuiet b s).steps = s.steps := rfl
@[simp] theorem beginQuiet_plan (b : Nat) (s : State) : (beginQuiet b s).plan = s.plan := rfl
@[simp] theorem beginQuiet_round (b : Nat) (s : State) : (beginQuiet b s).round = s.round := rfl
@[simp] theorem beginQuiet_gauges (b : Nat) (s : State) : (beginQuiet b s).gauges = s.gauges := rfl
@[simp] theorem beginQuiet_gpods (b : Nat) (s : State) : (beginQuiet b s).gpods = s.gpods := rfl
@[simp] theorem beginQuiet_apods (b : Nat) (s : State) : (beginQuiet b s).apods = s.apods := rfl
@[simp] theorem beginQuiet_line (b : Nat) (s : State) :
    (beginQuiet b s).line = { s.line with frame := .quiet b s.clk } := rfl
@[simp] theorem beginQuiet_crackset (b : Nat) (s : State) : (beginQuiet b s).crackset = s.crackset := rfl
@[simp] theorem beginQuiet_cracks (b : Nat) (s : State) : (beginQuiet b s).cracks = s.cracks := rfl
@[simp] theorem beginQuiet_limits (b : Nat) (s : State) : (beginQuiet b s).limits = s.limits := rfl
@[simp] theorem beginQuiet_marks (b : Nat) (s : State) : (beginQuiet b s).marks = s.marks := rfl
@[simp] theorem beginQuiet_port (b : Nat) (s : State) : (beginQuiet b s).port = s.port := rfl
@[simp] theorem beginQuiet_pending (b : Nat) (s : State) : (beginQuiet b s).pending = s.pending := rfl

@[simp] theorem answer_clk (r : Response) (s : State) : (answer r s).clk = s.clk := rfl
@[simp] theorem answer_ticks (r : Response) (s : State) : (answer r s).ticks = s.ticks := rfl
@[simp] theorem answer_scanEnds (r : Response) (s : State) : (answer r s).scanEnds = s.scanEnds := rfl
@[simp] theorem answer_sampled (r : Response) (s : State) : (answer r s).sampled = s.sampled := rfl
@[simp] theorem answer_pulseStart (r : Response) (s : State) : (answer r s).pulseStart = s.pulseStart := rfl
@[simp] theorem answer_inReset (r : Response) (s : State) : (answer r s).inReset = s.inReset := rfl
@[simp] theorem answer_hall (r : Response) (s : State) : (answer r s).hall = s.hall := rfl
@[simp] theorem answer_rams (r : Response) (s : State) : (answer r s).rams = s.rams := rfl
@[simp] theorem answer_groups (r : Response) (s : State) : (answer r s).groups = s.groups := rfl
@[simp] theorem answer_steps (r : Response) (s : State) : (answer r s).steps = s.steps := rfl
@[simp] theorem answer_plan (r : Response) (s : State) : (answer r s).plan = s.plan := rfl
@[simp] theorem answer_round (r : Response) (s : State) : (answer r s).round = s.round := rfl
@[simp] theorem answer_gauges (r : Response) (s : State) : (answer r s).gauges = s.gauges := rfl
@[simp] theorem answer_gpods (r : Response) (s : State) : (answer r s).gpods = s.gpods := rfl
@[simp] theorem answer_apods (r : Response) (s : State) : (answer r s).apods = s.apods := rfl
@[simp] theorem answer_line (r : Response) (s : State) : (answer r s).line = s.line := rfl
@[simp] theorem answer_crackset (r : Response) (s : State) : (answer r s).crackset = s.crackset := rfl
@[simp] theorem answer_cracks (r : Response) (s : State) : (answer r s).cracks = s.cracks := rfl
@[simp] theorem answer_limits (r : Response) (s : State) : (answer r s).limits = s.limits := rfl
@[simp] theorem answer_marks (r : Response) (s : State) : (answer r s).marks = s.marks := rfl
@[simp] theorem answer_port (r : Response) (s : State) :
    (answer r s).port = { s.port with phase := .answer, held := some r, work := none } := rfl
@[simp] theorem answer_pending (r : Response) (s : State) : (answer r s).pending = s.pending := rfl

@[simp] theorem busBegin_restFlag (b : Nat) (r : Round) : (busBegin b r).restFlag = r.restFlag := rfl
@[simp] theorem busBegin_intervalCount (b : Nat) (r : Round) :
    (busBegin b r).intervalCount = r.intervalCount := rfl
@[simp] theorem busBegin_cyclicDue (b : Nat) (r : Round) : (busBegin b r).cyclicDue = r.cyclicDue := rfl
@[simp] theorem busBegin_delayCount (b : Nat) (r : Round) : (busBegin b r).delayCount = r.delayCount := rfl
@[simp] theorem busBegin_kind (b : Nat) (r : Round) : (busBegin b r).kind = r.kind := rfl
@[simp] theorem busBegin_group (b : Nat) (r : Round) : (busBegin b r).group = r.group := rfl
@[simp] theorem busBegin_pods (b : Nat) (r : Round) : (busBegin b r).pods = r.pods := rfl
@[simp] theorem busBegin_todo (b : Nat) (r : Round) : (busBegin b r).todo = r.todo := rfl
@[simp] theorem busBegin_latchTime (b : Nat) (r : Round) : (busBegin b r).latchTime = r.latchTime := rfl
@[simp] theorem busBegin_trigCommand (b : Nat) (r : Round) : (busBegin b r).trigCommand = r.trigCommand := rfl
@[simp] theorem busBegin_trigLifeCycles (b : Nat) (r : Round) :
    (busBegin b r).trigLifeCycles = r.trigLifeCycles := rfl
@[simp] theorem busBegin_latchAnswered (b : Nat) (r : Round) :
    (busBegin b r).latchAnswered = r.latchAnswered := rfl
@[simp] theorem busBegin_podsRead (b : Nat) (r : Round) : (busBegin b r).podsRead = r.podsRead := rfl
@[simp] theorem busBegin_podsMissed (b : Nat) (r : Round) : (busBegin b r).podsMissed = r.podsMissed := rfl
@[simp] theorem busBegin_clearFor (b : Nat) (r : Round) : (busBegin b r).clearFor = r.clearFor := rfl
@[simp] theorem busBegin_restarting (b : Nat) (r : Round) : (busBegin b r).restarting = r.restarting := rfl
@[simp] theorem busBegin_busStart (b : Nat) (r : Round) : (busBegin b r).busStart = b := rfl
@[simp] theorem busBegin_waitEnds (b : Nat) (r : Round) : (busBegin b r).waitEnds = r.waitEnds := rfl
@[simp] theorem busBegin_busFree (b : Nat) (r : Round) : (busBegin b r).busFree = r.busFree := rfl
@[simp] theorem busBegin_limitWrites (b : Nat) (r : Round) : (busBegin b r).limitWrites = [] := rfl

end Sys2Proof.Machine
end

