-- ==== Sys2Proof/Laws/Blocks.lean ====
section
/-! SUPPORT. What the shared operations of the round plan, the request port and the line's receiver can do, said once. -/

namespace Sys2Proof.Machine

/-! ## The round plan -/

/-- Only the clock, the round plan and the marks differ. -/
def Plans (s t : State) : Prop := t = { s with clk := t.clk, plan := t.plan, round := t.round, marks := t.marks }

theorem Plans.rfl (s : State) : Plans s s := Eq.refl s

theorem Plans.trans {a b c : State} (h : Plans a b) (k : Plans b c) : Plans a c := by
  unfold Plans at *
  rw [k, h]

/-- The START of the latch broadcast (R65). -/
theorem latchStart_eq (s : State) :
    latchStart s =
      { s with
        clk := startTime s
        plan := { s.plan with roundState := .latch }
        round :=
          { s.round with
            latchTime := hallTime { s with clk := startTime s }
            trigCommand := s.groups[s.round.group].newtons
            trigLifeCycles := s.groups[s.round.group].lifeCycles
            busStart := startTime s
            limitWrites := [] } } := by
  have h : max s.clk (startTime s) = startTime s := by unfold startTime; omega
  simp only [latchStart, passTo, setRound, setPlan, busBegin, h]

/-- The beginning of a bus clear (R62). -/
theorem clearStart_eq (why : ClearReason) (s : State) :
    clearStart why s =
      { s with
        plan := { s.plan with roundState := .clear }
        round := { s.round with clearFor := why, busStart := s.clk, limitWrites := [] } } := rfl

theorem plans_setPlan (x : Plan) (s : State) : Plans s (setPlan x s) := Eq.refl _

theorem plans_setRound (x : Round) (s : State) : Plans s (setRound x s) := Eq.refl _

theorem plans_markIf (b : Bool) (i : RecordId) (s : State) : Plans s (markIf b i s) := by
  unfold markIf
  split <;> exact Eq.refl _

theorem plans_roundGoesOn (s : State) : Plans s (roundGoesOn s) := by
  unfold roundGoesOn
  split
  · exact Eq.refl _
  · rw [latchStart_eq]
    exact Eq.refl _

/-- The start of a round (R63). -/
theorem plans_roundStart (kind : TriggerKind) (delayed : Bool) (s : State) : Plans s (roundStart kind delayed s) := by
  unfold roundStart
  simp only
  split
  · exact Eq.refl _
  · exact (plans_setRound _ _).trans (plans_roundGoesOn _)

/-- A trigger that reaches the round plan (R73). -/
theorem plans_trigger (kind : TriggerKind) (s : State) : Plans s (trigger kind s) := by
  unfold trigger setArmed
  split
  · exact Plans.rfl s
  · split
    · exact Plans.rfl s
    · split
      · exact (plans_setPlan _ _).trans (plans_markIf _ _ _)
      · split
        · exact ((plans_setPlan _ _).trans (plans_markIf _ _ _)).trans (plans_roundStart _ _ _)
        · exact plans_roundStart _ _ _

/-- Every release that is considered belongs to the bus activity in progress and ends its stretch now or later (R61). -/
theorem mem_stretchReleases {r : Nat} {s : State} (h : r ∈ stretchReleases s) :
    s.round.busStart ≤ r ∧ s.clk ≤ r + us (stretchLimitAt r s) := by
  simpa using (List.mem_filter.mp h).2

/-! ## The bits of a frame on the line -/

/-- The next bit is the first whose middle has not passed (R92). -/
theorem nextBit_le_iff (began bit : Nat) (s : State) :
    nextBit began s ≤ bit ↔ s.clk ≤ bitMiddle began bit := by
  unfold nextBit bitMiddle us
  omega

/-! ## The request port -/

/-- The port's own check of the request in work answers it with a refusal or does nothing (R172). -/
theorem portCheck_cases (s : State) :
    (portRefusal s = none ∧ portCheck s = s) ∨
      ∃ st, portRefusal s = some st ∧
        portCheck s = answer { status := st, payload := [], readOf := none } s := by
  unfold portCheck
  cases h : portRefusal s with
  | none => exact .inl ⟨rfl, rfl⟩
  | some st => exact .inr ⟨st, rfl, rfl⟩

/-- The port's own check touches the port alone. -/
theorem portCheck_eq (s : State) : portCheck s = { s with port := (portCheck s).port } := by
  rcases portCheck_cases s with ⟨-, h⟩ | ⟨st, -, h⟩
  · rw [h]
  · rw [h]
    rfl

/-- The request in work is refused by the port only where it decodes to no command (R172). -/
theorem portRefusal_some {s : State} {st : Status} (h : portRefusal s = some st) :
    s.port.phase = .working ∧ ∃ q, s.port.work = some q ∧ decodeRequest q = .refused st := by
  unfold portRefusal at h
  split at h
  · refine ⟨‹_›, ?_⟩
    cases hw : s.port.work with
    | none => simp [hw] at h
    | some q =>
      simp only [hw, Option.map_some] at h
      cases hq : decodeRequest q with
      | refused st' =>
        simp only [hq, Option.some.injEq] at h
        exact ⟨q, rfl, by rw [hq, h]⟩
      | command c => simp [hq] at h
  · cases h

theorem takeRequest_inWork {c : Instr} {s : State} (f : State → State) (h : InWork c s) :
    takeRequest c f s = f s := if_pos h

theorem takeRequest_not_inWork {c : Instr} {s : State} (f : State → State) (h : ¬InWork c s) :
    takeRequest c f s = portCheck s := if_neg h

/-- The STOP and the end of a round that a RESTART is ending (R77). -/
theorem endRestartedByte_eq (s : State) :
    endRestartedByte s =
      { s with
        clk := s.clk + busBit s
        plan := { s.plan with roundState := .idle }
        round := { s.round with restarting := false, busFree := s.clk + busBit s + busBit s } } := by
  have h : max s.clk (s.clk + busBit s) = s.clk + busBit s := by omega
  simp only [endRestartedByte, endRestartedRound, stopSent, setRound, setPlan, passTo, h]
  rfl

end Sys2Proof.Machine

namespace Sys2Proof

/-! ## The line's receiver -/

@[simp] theorem receive_nil : receive [] = .waiting [] := rfl

/-- One fall more is taken by what the falls before it have come to. -/
theorem receive_snoc (falls : List LineFall) (f : LineFall) :
    receive (falls ++ [f]) = (receive falls).take f := by
  simp [receive]

@[simp] theorem take_failed (n : Nat) (f : LineFall) : Reception.take (.failed n) f = .failed n := rfl

@[simp] theorem take_complete (bytes : List Byte) (f : LineFall) :
    Reception.take (.complete bytes) f = .complete bytes := rfl

/-- A whole byte is read from its ten bits as it was sent (R91). -/
@[simp] theorem lineBits_byte (b : Byte) : LineFall.byte (lineBits b) = b := by
  revert b
  decide +kernel

/-! ## The request port's lines -/

/-- The levels of a byte, the first the most significant bit, are read back as that byte (R166, R187). -/
@[simp] theorem msbByte_msbBits (b : Byte) : msbByte (msbBits b) = b := by
  revert b
  decide +kernel

/-- Eight levels make the first whole byte, and the rest is taken in the same way (R166). -/
theorem spiBytes_append (bits rest : List Bool) (h : bits.length = 8) :
    spiBytes (bits ++ rest) = msbByte bits :: spiBytes rest := by
  have hn : (8 + rest.length) / 8 = rest.length / 8 + 1 := by omega
  simp only [spiBytes, List.length_append, h, hn, List.range_succ_eq_map, List.map_cons, List.map_map]
  refine congr (congrArg _ ?_) (List.map_congr_left fun i _ => ?_)
  · simp [← h]
  · have hd : 8 * (i + 1) = bits.length + 8 * i := by omega
    simp [hd, List.drop_append, List.drop_eq_nil_of_le (show bits.length ≤ bits.length + 8 * i by omega)]

/-- Levels that make no whole byte are discarded (R166). -/
theorem spiBytes_part (bits : List Bool) (h : bits.length < 8) : spiBytes bits = [] := by
  simp [spiBytes, Nat.div_eq_of_lt h]
end Sys2Proof
end

