-- ==== Sys2Proof/Laws/Folds.lean ====
section
/-! SUPPORT. The two ways a bank of records is visited: forAll keeps what each of its visits keeps, and mapBank changes
each record by itself; and the change marks read after they are written. -/

namespace Sys2Proof.Machine

/-- What every visit keeps, a visit of every index keeps. -/
theorem forAll_invariant {n : Nat} {f : Fin n → State → State} {P : State → Prop}
    (h : ∀ i t, P t → P (f i t)) {s : State} (hs : P s) : P (forAll f s) := by
  unfold forAll
  generalize List.finRange n = l
  induction l generalizing s with
  | nil => exact hs
  | cons i l ih => exact ih (h i s hs)

/-- A relation to a fixed starting state that every visit keeps holds after a visit of every index. -/
theorem forAll_relation {n : Nat} {f : Fin n → State → State} {R : State → State → Prop}
    (hr : ∀ s, R s s) (ht : ∀ a b c, R a b → R b c → R a c) (h : ∀ i t, R t (f i t)) (s : State) :
    R s (forAll f s) :=
  forAll_invariant (P := R s) (fun i t ht' => ht s t _ ht' (h i t)) (hr s)

/-- A record of a bank after mapBank. -/
@[simp] theorem mapBank_getElem {α : Type} {n : Nat} (f : Fin n → α → α) (v : Vector α n) (i : Nat)
    (h : i < n) : (mapBank f v)[i] = f ⟨i, h⟩ v[i] := by
  simp [mapBank]

/-- The mark just written is the mark read; a STEP carries none (R3). -/
theorem marks_get_put_self (m : Marks) (b : Bool) (i : RecordId) (h : ∀ j, i ≠ .step j) :
    (m.put b i).get i = b := by
  cases i <;> simp_all [Marks.get, Marks.put]

/-- A mark written on one record leaves every other record's mark as it was. -/
theorem marks_get_put_other (m : Marks) (b : Bool) (i j : RecordId) (h : i ≠ j) :
    (m.put b i).get j = m.get j := by
  cases i <;> cases j <;> simp_all [Marks.get, Marks.put, Fin.ext_iff]

end Sys2Proof.Machine
end

