-- ==== Sys2Proof/Laws/Frames.lean ====
section
/-! SUPPORT. What each shared operation can touch, said once: the protection path changes rams, groups, limits and marks;
a handover to the gauge records changes gauges and pods besides; the crack table changes cracks besides. -/

namespace Sys2Proof.Machine

/-! ## The protection path -/

/-- Only rams, groups, limits and marks differ. -/
def Protects (s t : State) : Prop :=
  t = { s with rams := t.rams, groups := t.groups, limits := t.limits, marks := t.marks }

theorem Protects.rfl (s : State) : Protects s s := Eq.refl s

theorem Protects.trans {a b c : State} (h : Protects a b) (k : Protects b c) : Protects a c := by
  unfold Protects at *
  rw [k, h]

theorem protects_mark (i : RecordId) (s : State) : Protects s (mark i s) := Eq.refl _

theorem protects_markIf (b : Bool) (i : RecordId) (s : State) : Protects s (markIf b i s) := by
  unfold markIf
  split
  · exact protects_mark i s
  · exact Protects.rfl s

theorem protects_setRam (r : Fin 8) (x : Ram) (s : State) : Protects s (setRam r x s) := Eq.refl _

theorem protects_putGroup (g : Fin 4) (x : Group) (s : State) : Protects s (putGroup g x s) :=
  Protects.trans (b := { s with groups := s.groups.set g x }) (Eq.refl _) (protects_markIf _ _ _)

theorem protects_putLimit (l : Fin 24) (x : Option Limit) (s : State) : Protects s (putLimit l x s) :=
  Protects.trans (b := { s with limits := s.limits.set l x }) (Eq.refl _) (protects_markIf _ _ _)

theorem protects_forAll {n : Nat} {f : Fin n → State → State} (h : ∀ i t, Protects t (f i t))
    (s : State) : Protects s (forAll f s) :=
  forAll_relation Protects.rfl (fun _ _ _ => Protects.trans) h s

theorem protects_unloadGroup (g : Fin 4) (s : State) : Protects s (unloadGroup g s) := by
  unfold unloadGroup
  split <;> exact protects_putGroup _ _ _

theorem protects_groupTrip (g : Fin 4) (s : State) : Protects s (groupTrip g s) := by
  unfold groupTrip
  split
  any_goals exact protects_unloadGroup g s
  · split
    · exact Protects.rfl s
    · exact protects_putGroup _ _ _
  · exact Protects.rfl s

/-- A ram trip (R38, R22). -/
theorem protects_tripRam (c : TripCause) (r : Fin 8) (s : State) : Protects s (tripRam c r s) := by
  unfold tripRam
  simp only
  split
  · exact (protects_setRam _ _ s).trans ((protects_mark _ _).trans (protects_groupTrip _ _))
  · exact Protects.rfl s

/-- A trip of every ram (R42). -/
theorem protects_tripAll (c : TripCause) (s : State) : Protects s (tripAll c s) :=
  protects_forAll (fun r t => protects_tripRam c r t) s

/-- A trip of every ram of a group (R43). -/
theorem protects_tripGroup (c : TripCause) (g : Fin 4) (s : State) : Protects s (tripGroup c g s) := by
  refine protects_forAll (fun r t => ?_) s
  split
  · exact protects_tripRam c r t
  · exact Protects.rfl t

/-- A recomputation of severity and derate (R20). -/
theorem protects_recompute (g : Fin 4) (s : State) : Protects s (recompute g s) :=
  protects_putGroup _ _ _

/-- The action of a limit on one target (R21). -/
theorem protects_applyAction (a : Action) (g : Fin 4) (s : State) : Protects s (applyAction a g s) := by
  unfold applyAction
  simp only
  split
  · exact Protects.rfl s
  · exact Protects.rfl s
  · split
    · split <;> exact protects_putGroup _ _ _
    · exact protects_putGroup _ _ _
    all_goals exact Protects.rfl s
  · split
    any_goals exact protects_putGroup _ _ _
    all_goals exact Protects.rfl s
  · split
    any_goals exact protects_unloadGroup g s
    all_goals exact Protects.rfl s
  · exact protects_tripGroup _ _ _

/-- The engage notices of a limit (R159). -/
theorem protects_notifyEngage (l : Limit) (s : State) : Protects s (notifyEngage l s) := by
  refine protects_forAll (fun g t => ?_) s
  split
  · exact (protects_recompute g t).trans (protects_applyAction _ _ _)
  · exact Protects.rfl t

/-- The release notices of a limit (R159). -/
theorem protects_notifyRelease (l : Limit) (s : State) : Protects s (notifyRelease l s) := by
  refine protects_forAll (fun g t => ?_) s
  split
  · exact protects_recompute g t
  · exact Protects.rfl t

/-- One evaluation of a limit slot (R153 to R159). -/
theorem protects_evalLimit (i : Fin 24) (s : State) : Protects s (evalLimit i s) := by
  unfold evalLimit
  split
  · exact Protects.rfl s
  · split
    · exact Protects.rfl s
    · simp only
      split
      · exact (protects_putLimit _ _ s).trans (protects_notifyEngage _ _)
      · split
        · exact (protects_putLimit _ _ s).trans (protects_notifyRelease _ _)
        · exact protects_putLimit _ _ s

/-- The evaluations of one event (R160). -/
theorem protects_evalWhere (p : Limit → Bool) (s : State) : Protects s (evalWhere p s) := by
  refine protects_forAll (fun i t => ?_) s
  split
  · exact protects_evalLimit i t
  · exact Protects.rfl t

/-- The zone change notices of one event (R142). -/
theorem protects_noticeZones (c : Fin 4 → Bool) (s : State) : Protects s (noticeZones c s) := by
  refine protects_forAll (fun g t => ?_) s
  split
  · exact protects_evalWhere _ t
  · exact Protects.rfl t

/-! ## The gauge records and the crack table -/

/-- Only gauges, gauge pods and what the protection path touches differ. -/
def Hands (s t : State) : Prop :=
  t = { s with rams := t.rams, groups := t.groups, limits := t.limits, marks := t.marks,
               gauges := t.gauges, gpods := t.gpods }

theorem Hands.rfl (s : State) : Hands s s := Eq.refl s

theorem Hands.trans {a b c : State} (h : Hands a b) (k : Hands b c) : Hands a c := by
  unfold Hands at *
  rw [k, h]

theorem Protects.hands {s t : State} (h : Protects s t) : Hands s t := by
  unfold Protects at h
  unfold Hands
  rw [h]

/-- A GAUGE record replaced, its limits evaluated where its state changes (R88). -/
theorem hands_putGauge (k : Fin 48) (x : Gauge) (s : State) : Hands s (putGauge k x s) := by
  unfold putGauge
  simp only
  split
  · exact Eq.refl _
  · exact Hands.trans (b := { s with gauges := s.gauges.set k x }) (Eq.refl _)
      ((protects_mark _ _).trans (protects_evalWhere _ _)).hands

theorem hands_forAll {n : Nat} {f : Fin n → State → State} (h : ∀ i t, Hands t (f i t))
    (s : State) : Hands s (forAll f s) :=
  forAll_relation Hands.rfl (fun _ _ _ => Hands.trans) h s

/-- A pod handed over as read (R81, R84). -/
theorem hands_handRead (p : Fin 12) (o : Fin 4 → Bool) (c : Fin 4 → Int) (s : State) :
    Hands s (handRead p o c s) := by
  unfold handRead
  refine Hands.trans (hands_forAll (fun i t => ?_) s) (Eq.refl _)
  simp only
  split
  · exact hands_putGauge _ _ _
  · exact Hands.rfl t

/-- A pod handed over as missed (R84). -/
theorem hands_handMiss (p : Fin 12) (w : MissReason) (s : State) : Hands s (handMiss p w s) := by
  unfold handMiss
  simp only
  have h : Hands s (markIf (s.gpods[p].consecutiveMisses == 0) (.gpod p)
      { s with gpods := s.gpods.set p (s.gpods[p].missed w) }) :=
    Hands.trans (b := { s with gpods := s.gpods.set p (s.gpods[p].missed w) }) (Eq.refl _)
      (protects_markIf _ _ _).hands
  split
  · refine h.trans (hands_forAll (fun i t => ?_) _)
    split
    · exact hands_putGauge _ _ _
    · exact Hands.rfl t
  · exact h

/-- Only cracks, the CRACKSET record and what the protection path touches differ. -/
def Gathers (s t : State) : Prop :=
  t = { s with rams := t.rams, groups := t.groups, limits := t.limits, marks := t.marks,
               cracks := t.cracks, crackset := t.crackset }

theorem Gathers.rfl (s : State) : Gathers s s := Eq.refl s

theorem Gathers.trans {a b c : State} (h : Gathers a b) (k : Gathers b c) : Gathers a c := by
  unfold Gathers at *
  rw [k, h]

theorem Protects.gathers {s t : State} (h : Protects s t) : Gathers s t := by
  unfold Protects at h
  unfold Gathers
  rw [h]

theorem gathers_putCrack (c : Fin 32) (x : Option Crack) (s : State) : Gathers s (putCrack c x s) :=
  Gathers.trans (b := { s with cracks := s.cracks.set c x }) (Eq.refl _)
    (protects_markIf _ _ _).gathers

/-- A located event (R127 to R131). -/
theorem gathers_locatedEvent (x : Int) (a c : Nat) (s : State) : Gathers s (locatedEvent x a c s) := by
  have hc : Gathers s (createCrack x a c s) := by
    unfold createCrack
    split
    · exact (gathers_putCrack _ _ s).trans (protects_noticeZones _ _).gathers
    · exact Gathers.trans
        (b := { s with crackset := { s.crackset with eventsLost := satInc max32 s.crackset.eventsLost } })
        (Eq.refl _) (protects_markIf _ _ _).gathers
  unfold locatedEvent
  split
  · split
    · split
      · exact (gathers_putCrack _ _ s).trans (protects_noticeZones _ _).gathers
      · exact Gathers.rfl s
    · exact hc
  · exact hc

/-- An activity window closes (R132 to R135). -/
theorem gathers_closeWindow (g : Fin 4) (s : State) : Gathers s (closeWindow g s) := by
  have h : Gathers s (forAll (fun c t =>
      match t.cracks[c] with
      | some y => if y.refGroup = some g then putCrack c (y.windowClose t.crackset) t else t
      | none => t) s) := by
    refine forAll_relation Gathers.rfl (fun _ _ _ => Gathers.trans) (fun c t => ?_) s
    split
    · split
      · exact gathers_putCrack _ _ _
      · exact Gathers.rfl t
    · exact Gathers.rfl t
  unfold closeWindow
  simp only
  split
  · exact h.trans (protects_noticeZones _ _).gathers
  · exact h

end Sys2Proof.Machine
end

