-- ==== Sys2Proof/Laws/PerInstr.lean ====
section
/-! SUPPORT. The request tables read forwards and backwards (Table 11-6), command by command: the frame content written
for a request command decodes to that command. The rows that name a WRITE by what it does decode to the row WRITE,
which is the same request. -/

namespace Sys2Proof.Laws

/-- Four bytes of a 32-bit number, read back. -/
theorem beNat_beBytes_four (x : BitVec 32) : BitVec.ofNat 32 (beNat (beBytes 4 x.toNat)) = x := by
  apply BitVec.eq_of_toNat_eq
  simp [beNat, beBytes, List.foldl]
  omega

/-- Two bytes of a 16-bit number, read back. -/
theorem beNat_beBytes_two (x : BitVec 16) : BitVec.ofNat 16 (beNat (beBytes 2 x.toNat)) = x := by
  apply BitVec.eq_of_toNat_eq
  simp [beNat, beBytes, List.foldl]
  omega

namespace RequestRoundTrip

/-- A well-formed request command's request decodes to the command. -/
def Statement (i : Instr) : Prop :=
  WellFormed i = true → ∀ q, requestOf i = some q → decodeRequest q = .command (asTaken i)

theorem resetAssert : Statement .resetAssert := by
  intro _ q h
  cases h

theorem powerOnReset (hpu : HpuLevel) (estop : EstopLevel) : Statement (.powerOnReset hpu estop) := by
  intro _ q h
  cases h

theorem controlTick : Statement .controlTick := by
  intro _ q h
  cases h

theorem sampleSet (counts : Vector (BitVec 16) 28) : Statement (.sampleSet counts) := by
  intro _ q h
  cases h

theorem pulsePeriodStart : Statement .pulsePeriodStart := by
  intro _ q h
  cases h

theorem estopAssert : Statement .estopAssert := by
  intro _ q h
  cases h

theorem estopRelease : Statement .estopRelease := by
  intro _ q h
  cases h

theorem hpuReadyFall : Statement .hpuReadyFall := by
  intro _ q h
  cases h

theorem hpuReadyRise : Statement .hpuReadyRise := by
  intro _ q h
  cases h

theorem selFall : Statement .selFall := by
  intro _ q h
  cases h

theorem selRise (sdi : List Bool) : Statement (.selRise sdi) := by
  intro _ q h
  cases h

theorem identify : Statement .identify := by
  intro _ q h
  cases h
  rfl

theorem read (kind key : Byte) : Statement (.read kind key) := by
  intro _ q h
  cases h
  rfl

theorem write (kind key : Byte) (items : List Byte) : Statement (.write kind key items) := by
  intro _ q h
  cases h
  rfl

theorem stepWrite (kind key : Byte) (items : List Byte) : Statement (.stepWrite kind key items) := by
  intro _ q h
  cases h
  rfl

theorem seatLoadWrite (group : Byte) (items : List Byte) : Statement (.seatLoadWrite group items) := by
  intro _ q h
  cases h
  rfl

theorem zoneWrite (group : Byte) (items : List Byte) : Statement (.zoneWrite group items) := by
  intro _ q h
  cases h
  rfl

theorem gaugeEnable (gauge : Byte) (items : List Byte) : Statement (.gaugeEnable gauge items) := by
  intro _ q h
  cases h
  rfl

theorem gaugeDisable (gauge : Byte) (items : List Byte) : Statement (.gaugeDisable gauge items) := by
  intro _ q h
  cases h
  rfl

theorem apodEnable (pod : Byte) (items : List Byte) : Statement (.apodEnable pod items) := by
  intro _ q h
  cases h
  rfl

theorem apodDisable (pod : Byte) (items : List Byte) : Statement (.apodDisable pod items) := by
  intro _ q h
  cases h
  rfl

theorem planWrite (key : Byte) (items : List Byte) : Statement (.planWrite key items) := by
  intro _ q h
  cases h
  rfl

theorem pwmPeriodWrite (key : Byte) (items : List Byte) : Statement (.pwmPeriodWrite key items) := by
  intro _ q h
  cases h
  rfl

theorem attentionMaskWrite (key : Byte) (items : List Byte) : Statement (.attentionMaskWrite key items) := by
  intro _ q h
  cases h
  rfl

theorem limitDefine (slot : Byte) (items : List Byte) : Statement (.limitDefine slot items) := by
  intro _ q h
  cases h
  rfl

theorem limitEdit (slot : Byte) (items : List Byte) : Statement (.limitEdit slot items) := by
  intro _ q h
  cases h
  rfl

theorem limitEnable (slot : Byte) (items : List Byte) : Statement (.limitEnable slot items) := by
  intro _ q h
  cases h
  rfl

theorem limitDisable (slot : Byte) (items : List Byte) : Statement (.limitDisable slot items) := by
  intro _ q h
  cases h
  rfl

theorem listChanged (start : Option (Byte × Byte)) : Statement (.listChanged start) := by
  intro _ q h
  match start, h with
  | none, h => cases h; rfl
  | some (_, _), h => cases h; rfl

theorem restart : Statement .restart := by
  intro _ q h
  cases h
  rfl

theorem restartComplete : Statement .restartComplete := by
  intro _ q h
  cases h

theorem groupRunResume (group : Byte) : Statement (.groupRunResume group) := by
  intro _ q h
  cases h
  rfl

theorem groupRunFromStep (group form : Byte) : Statement (.groupRunFromStep group form) := by
  intro w q h
  cases h
  simpa [decodeRequest, asTaken, WellFormed] using w

theorem groupPauseNow (group : Byte) : Statement (.groupPauseNow group) := by
  intro _ q h
  cases h
  rfl

theorem groupPauseAtCycleEnd (group : Byte) : Statement (.groupPauseAtCycleEnd group) := by
  intro _ q h
  cases h
  rfl

theorem groupUnload (group : Byte) : Statement (.groupUnload group) := by
  intro _ q h
  cases h
  rfl

theorem groupRelease (group : Byte) : Statement (.groupRelease group) := by
  intro _ q h
  cases h
  rfl

theorem ramStart (ram : Byte) : Statement (.ramStart ram) := by
  intro _ q h
  cases h
  rfl

theorem ramStop (ram : Byte) : Statement (.ramStop ram) := by
  intro _ q h
  cases h
  rfl

theorem ramClear (ram : Byte) : Statement (.ramClear ram) := by
  intro _ q h
  cases h
  rfl

theorem gaugeRound : Statement .gaugeRound := by
  intro _ q h
  cases h
  rfl

theorem gaugeArmArm : Statement .gaugeArmArm := by
  intro _ q h
  cases h
  rfl

theorem gaugeArmDisarm : Statement .gaugeArmDisarm := by
  intro _ q h
  cases h
  rfl

theorem gaugeZero (sel : Byte) : Statement (.gaugeZero sel) := by
  intro _ q h
  cases h
  rfl

theorem peakReset (sel : Byte) : Statement (.peakReset sel) := by
  intro _ q h
  cases h
  rfl

theorem podCountersClear (sel : Byte) : Statement (.podCountersClear sel) := by
  intro _ q h
  cases h
  rfl

theorem findCrack (x : BitVec 32) : Statement (.findCrack x) := by
  intro _ q h
  cases h
  exact congrArg (fun y => Taken.command (.findCrack y)) (beNat_beBytes_four x)

theorem crackAck (slot : Byte) : Statement (.crackAck slot) := by
  intro _ q h
  cases h
  rfl

theorem crackWidth (slot : Byte) (width : BitVec 16) : Statement (.crackWidth slot width) := by
  intro _ q h
  cases h
  exact congrArg (fun y => Taken.command (.crackWidth slot y)) (beNat_beBytes_two width)

theorem crackRetire (slot : Byte) : Statement (.crackRetire slot) := by
  intro _ q h
  cases h
  rfl

theorem crackMerge (a b : Byte) : Statement (.crackMerge a b) := by
  intro _ q h
  cases h
  rfl

theorem limitAck (slot : Byte) : Statement (.limitAck slot) := by
  intro _ q h
  cases h
  rfl

theorem limitRetire (slot : Byte) : Statement (.limitRetire slot) := by
  intro _ q h
  cases h
  rfl

theorem intervalTimerExpiry : Statement .intervalTimerExpiry := by
  intro _ q h
  cases h

theorem cyclicStart : Statement .cyclicStart := by
  intro _ q h
  cases h

theorem delayExpiry : Statement .delayExpiry := by
  intro _ q h
  cases h

theorem latchBroadcastDone (addrAck dataAck : Bool) : Statement (.latchBroadcastDone addrAck dataAck) := by
  intro _ q h
  cases h

theorem latchWaitExpiry : Statement .latchWaitExpiry := by
  intro _ q h
  cases h

theorem podReadDone (reply : PodReply) : Statement (.podReadDone reply) := by
  intro _ q h
  cases h

theorem stretchTimeout : Statement .stretchTimeout := by
  intro _ q h
  cases h

theorem busClearDone (result : BusClearEnd) : Statement (.busClearDone result) := by
  intro _ q h
  cases h

theorem timeFrameDue : Statement .timeFrameDue := by
  intro _ q h
  cases h

theorem slotOpen (dominant : Bool) : Statement (.slotOpen dominant) := by
  intro _ q h
  cases h

theorem contention : Statement .contention := by
  intro _ q h
  cases h

theorem replyTimeout (falls : List LineFall) : Statement (.replyTimeout falls) := by
  intro _ q h
  cases h

theorem replyFrameError : Statement .replyFrameError := by
  intro _ q h
  cases h

theorem replyReceived (falls : List LineFall) : Statement (.replyReceived falls) := by
  intro _ q h
  cases h

theorem quietWaitEnd : Statement .quietWaitEnd := by
  intro _ q h
  cases h

theorem requestPulse (us : Nat) : Statement (.requestPulse us) := by
  intro _ q h
  cases h

theorem lineStuck : Statement .lineStuck := by
  intro _ q h
  cases h

theorem lineRecovered : Statement .lineRecovered := by
  intro _ q h
  cases h

theorem timeFrameEnd : Statement .timeFrameEnd := by
  intro _ q h
  cases h

theorem heldFrameBegin : Statement .heldFrameBegin := by
  intro _ q h
  cases h

end RequestRoundTrip

end Sys2Proof.Laws
end

