-- ==== Sys2Proof/Tests/Slice0.lean ====
section
/-! SUPPORT. Tests. The ill-formed terms that WellFormed refuses; request frames spelled out from Table 11-6; the manual's
worked cases, each with its table; and for every statement of Obligations.lean that has hypotheses, states that meet
them (witness_…), at the ends of their ranges. -/

namespace Sys2Proof.Tests

-- The theorems of this file are checked one after another: a thread for each would take more memory than the check has.
set_option Elab.async false

open Sys2Proof.Machine

/-! ## WellFormed -/

theorem test_stepWrite_names_a_step : WellFormed (.stepWrite 2 0 [7, 0, 0, 0, 1]) = false ∧
    WellFormed (.stepWrite 5 0 []) = false ∧ WellFormed (.stepWrite 3 63 [1, 2]) = true ∧
    WellFormed (.stepWrite 2 0 [2, 4]) = true := by decide

theorem test_seatLoadWrite_names_seat_load : WellFormed (.seatLoadWrite 0 [2, 4]) = false ∧
    WellFormed (.seatLoadWrite 0 [6, 0, 0, 3, 232]) = true := by decide

theorem test_zoneWrite_names_a_zone : WellFormed (.zoneWrite 0 [2, 4]) = false ∧
    WellFormed (.zoneWrite 0 [14, 0, 0, 3, 232]) = true := by decide

theorem test_gaugeEnable_carries_yes : WellFormed (.gaugeEnable 0 [1, 0]) = false ∧
    WellFormed (.gaugeEnable 0 [1, 1]) = true := by decide

theorem test_gaugeDisable_carries_no : WellFormed (.gaugeDisable 0 [1, 1]) = false ∧
    WellFormed (.gaugeDisable 0 [1, 0]) = true := by decide

theorem test_apodEnable_carries_yes : WellFormed (.apodEnable 0 [2, 0, 0, 0, 1]) = false ∧
    WellFormed (.apodEnable 0 [2, 0, 0, 0, 1, 1, 1]) = true := by decide

theorem test_apodDisable_carries_no : WellFormed (.apodDisable 0 [1, 1]) = false ∧
    WellFormed (.apodDisable 0 [1, 0]) = true := by decide

theorem test_pwmPeriodWrite_names_pwm_period : WellFormed (.pwmPeriodWrite 0 [1, 10]) = false ∧
    WellFormed (.pwmPeriodWrite 0 [3, 3, 232]) = true := by decide

theorem test_attentionMaskWrite_names_it : WellFormed (.attentionMaskWrite 0 [1, 10]) = false ∧
    WellFormed (.attentionMaskWrite 0 [8, 0, 0]) = true := by decide

theorem test_limitEdit_names_another_field : WellFormed (.limitEdit 0 [2, 1]) = false ∧
    WellFormed (.limitEdit 0 [9, 3]) = true := by decide

theorem test_limitEnable_carries_yes : WellFormed (.limitEnable 0 [2, 0]) = false ∧
    WellFormed (.limitEnable 0 [2, 1]) = true := by decide

theorem test_limitDisable_carries_no : WellFormed (.limitDisable 0 [2, 1]) = false ∧
    WellFormed (.limitDisable 0 [2, 0]) = true := by decide

theorem test_groupRunFromStep_is_no_resume : WellFormed (.groupRunFromStep 0 0x80) = false ∧
    WellFormed (.groupRunFromStep 0 0x0F) = true := by decide

theorem test_latch_data_needs_its_address : WellFormed (.latchBroadcastDone false true) = false ∧
    WellFormed (.latchBroadcastDone false false) = true := by decide

/-- The falls of a reply of whole bytes. -/
abbrev sent (bytes : List Byte) : List LineFall := bytes.map lineBits

/-- The levels of SDI with which a supervisor clocks these bytes, each with its most significant bit first. -/
abbrev clocked (bytes : List Byte) : List Bool := bytes.flatMap msbBits

theorem test_reply_reaches_its_check : WellFormed (.replyReceived []) = false ∧
    WellFormed (.replyReceived (sent [1, 0])) = false ∧ WellFormed (.replyReceived [1]) = false ∧
    WellFormed (.replyReceived (sent [0x80, 0x89])) = true := by decide

theorem test_reply_breaks_off : WellFormed (.replyTimeout (sent [0x80, 0x89])) = false ∧
    WellFormed (.replyTimeout (sent [7])) = false ∧ WellFormed (.replyTimeout []) = true ∧
    WellFormed (.replyTimeout (sent [1, 0])) = true := by decide

theorem test_reply_ends : WellFormed (.replyReceived (sent [1])) = false ∧
    WellFormed (.replyReceived (sent [7])) = true ∧ WellFormed (.replyReceived [0]) = true := by decide

theorem test_request_pulse_length : WellFormed (.requestPulse 99) = false ∧
    WellFormed (.requestPulse 5000) = false ∧ WellFormed (.requestPulse 100) = true ∧
    WellFormed (.requestPulse 4999) = true := by decide

/-! ## Frames and bytes (Tables 11-2, 11-5, 11-6, 11-7; sections 10.1.1, 11.4) -/

theorem test_check_of_identify : crc8 [0x02, 0x01] = 0x2D := by decide +kernel
theorem test_check_of_empty : responseBytes emptyResponse = [0x01, 0x00, 0x15] := by decide +kernel
theorem test_check_of_ok : responseBytes ok = [0x00, 0x00, 0x00] := by decide +kernel
theorem test_check_of_overflow_reply : crc8 [0x80] = 0x89 := by decide +kernel

theorem test_decode_port_requests :
    decodeRequest ⟨0x01, []⟩ = .command .identify ∧
      decodeRequest ⟨0x02, [0x02, 0x01]⟩ = .command (.read 2 1) ∧
      decodeRequest ⟨0x04, []⟩ = .command (.listChanged none) ∧
      decodeRequest ⟨0x05, []⟩ = .command .restart ∧
      decodeRequest ⟨0x00, []⟩ = .refused .unknown ∧ decodeRequest ⟨0x01, [0]⟩ = .refused .badValue := by
  decide

theorem test_decode_group_requests :
    decodeRequest ⟨0x20, [0x01, 0x80]⟩ = .command (.groupRunResume 1) ∧
      decodeRequest ⟨0x20, [0x01, 0x0F]⟩ = .command (.groupRunFromStep 1 0x0F) ∧
      decodeRequest ⟨0x21, [0x03, 0x00]⟩ = .command (.groupPauseNow 3) ∧
      decodeRequest ⟨0x21, [0x03, 0x01]⟩ = .command (.groupPauseAtCycleEnd 3) ∧
      decodeRequest ⟨0x21, [0x03, 0x02]⟩ = .refused .badValue ∧
      decodeRequest ⟨0x21, [0x04, 0x02]⟩ = .refused .badKey ∧
      decodeRequest ⟨0x22, [0x00]⟩ = .command (.groupUnload 0) ∧
      decodeRequest ⟨0x23, [0x00]⟩ = .command (.groupRelease 0) := by
  decide

theorem test_decode_record_requests :
    decodeRequest ⟨0x30, [0x07]⟩ = .command (.ramStart 7) ∧
      decodeRequest ⟨0x31, [0x07]⟩ = .command (.ramStop 7) ∧
      decodeRequest ⟨0x32, [0x07]⟩ = .command (.ramClear 7) ∧
      decodeRequest ⟨0x40, []⟩ = .command .gaugeRound ∧
      decodeRequest ⟨0x41, [0x00]⟩ = .command .gaugeArmDisarm ∧
      decodeRequest ⟨0x41, [0x01]⟩ = .command .gaugeArmArm ∧
      decodeRequest ⟨0x42, [0xFF]⟩ = .command (.gaugeZero 0xFF) ∧
      decodeRequest ⟨0x43, [0x2F]⟩ = .command (.peakReset 47) ∧
      decodeRequest ⟨0x50, [0x0F]⟩ = .command (.podCountersClear 15) := by
  decide

theorem test_decode_table_requests :
    decodeRequest ⟨0x60, [0x00, 0x03, 0xD0, 0x90]⟩ = .command (.findCrack 250000) ∧
      decodeRequest ⟨0x61, [0x1F]⟩ = .command (.crackAck 31) ∧
      decodeRequest ⟨0x62, [0x1F, 0x27, 0x10]⟩ = .command (.crackWidth 31 10000) ∧
      decodeRequest ⟨0x63, [0x1F]⟩ = .command (.crackRetire 31) ∧
      decodeRequest ⟨0x64, [0x04, 0x02]⟩ = .command (.crackMerge 4 2) ∧
      decodeRequest ⟨0x70, [0x17]⟩ = .command (.limitAck 23) ∧
      decodeRequest ⟨0x71, [0x17]⟩ = .command (.limitRetire 23) := by
  decide

theorem test_no_table_word_spells_a_command : decodeTableWord 8 1 = none := rfl

/-- Table 11-5: the items of the calibration WRITE of RAM 2. -/
def calibration : List Byte :=
  [0x05, 0x00, 0x1E, 0x84, 0x80, 0x06, 0x00, 0x78, 0x07, 0xFF, 0xFC, 0xF2, 0xC0, 0x08, 0x00, 0x0D, 0xBB, 0xA0,
   0x09, 0x00, 0x00, 0x07, 0xD0]

theorem test_calibration_write :
    checkPairs State.reset (.ram 2) calibration.length [] calibration =
      .good [(5, 2000000), (6, 120), (7, -200000), (8, 900000), (9, 2000)] := by decide +kernel

theorem test_link_bytes : latchBytes = [0x00, 0x5C] ∧ readAddress 0 = 0x61 ∧ readAddress 11 = 0x77 ∧
    pollByte 15 = 0xAF ∧ timeBytes (40 * 0x01020304) = [0xB0, 1, 2, 3, 4] := by decide

/-- 0xA5 between its start bit and its stop bit, the first bit on the right (R91). -/
theorem test_line_bits : lineBits 0xA5 = 0b1101001010#10 ∧ lineBits 0x00 = 0b1000000000#10 := by decide

theorem test_reception : receive [1] = .waiting [] ∧ receive [1, lineBits 2] = .waiting [2] ∧
    receive [lineBits 0x80, 1, lineBits 0x89] = .complete [0x80, 0x89] ∧
    receive [lineBits 2, 0b0111111110#10] = .failed 2 ∧ receive [lineBits 0xFF] = .failed 1 := by decide

/-- The data bits of the POLL of pod 0 are 0xA0: its bit 5, sent sixth after the start bit, is its first 1. -/
theorem test_poll_drives_the_line :
    let s (clk : Nat) : State := { State.reset with clk := clk, line := { frame := .poll 0 0 true } }
    alineDominant (s 0) = true ∧ alineDominant (s 959) = true ∧ alineDominant (s 960) = false ∧
      alineDominant (s 1120) = true ∧ alineDominant (s 1439) = false ∧ alineDominant (s 1600) = false := by
  decide +kernel

/-! ## Worked cases of chapters 1 to 9 -/

theorem test_sine_entries : sine 4 = 201 ∧ sine 1023 = 32767 ∧ sine 1028 = 32766 ∧ sine 3076 = -32766 ∧
    sine 4095 = -50 := by decide +kernel

theorem test_rounding_examples : roundDiv 3155 2 = 1578 ∧ roundDiv (-3155) 2 = -1578 ∧ roundDiv 249 100 = 2 ∧
    roundDiv (-1) 2 = -1 ∧ roundDiv 1 2 = 1 ∧ roundDiv (-123457 * 5000) 10000 = -61729 := by decide

/-- The CYCLE step of section 1.5. -/
def cycleStep : StepRec :=
  { kind := .cycle, mean := 800000, amp := 400000, freqMhz := 2000, count := 2000000 }

/-- Group 1 at an advance of Table 1-5, by its phase before. -/
def cyclingGroup (phase : Word) : Group :=
  { state := .run, stepCount := 1, stepEntered := true, cyclesLeft := 2000000, phase := phase,
    phaseInc := 4294967, cycling := .cycling, lifeCycles := 5 }

theorem test_phase_increment : phaseIncrement 2000 = 4294967 := by decide

theorem test_cycle_peak : ((cyclingGroup 1073741750).advance cycleStep {}).1.newtons = 1199988 ∧
    ((cyclingGroup 1073741750).advance cycleStep {}).2 = .peak := by decide +kernel

theorem test_cycle_trough : ((cyclingGroup 3221225250).advance cycleStep {}).1.newtons = 400012 ∧
    ((cyclingGroup 3221225250).advance cycleStep {}).2 = .trough := by decide +kernel

theorem test_cycle_wrap : ((cyclingGroup 4294967000).advance cycleStep {}).1.newtons = 802454 ∧
    ((cyclingGroup 4294967000).advance cycleStep {}).1.lifeCycles = 6 ∧
    ((cyclingGroup 4294967000).advance cycleStep {}).1.cyclesLeft = 1999999 ∧
    ((cyclingGroup 4294967000).advance cycleStep {}).1.phase = 4294671 := by decide +kernel

/-- RAM 2 of section 3.6. -/
def ramTwo : Ram :=
  { group := 1, share := 5000, fsForce := 2000000, loadZero := 120, fMin := -200000, fMax := 900000,
    slewMax := 2000, kp := 104858, ki := 16777 }

/-- RAM 2 before the PEAK tick of Table 3-4. -/
def peakTick : Ram :=
  { ramTwo with state := .active, setpoint := 505000, integrator := 2500 * 2 ^ 24, u := 2500,
                shadowCompare := 1563, activeCompare := 1563 }

theorem test_force_conversion : (peakTick.convert 8407 0 0).force = 505814 := by decide

theorem test_chain_at_the_peak :
    (((peakTick.convert 8407 0 0).chain 1200000 850 2500).countSat) =
      { ramTwo with
        state := .active, force := 505814, setpoint := 507000, trackError := 1186, u := 2620,
        integrator := 41962937522, slewLimited := true, shadowCompare := 1578, loadCount := 8407,
        activeCompare := 1563 } := by decide

theorem test_chain_saturates :
    let x := ({ peakTick with setpoint := 507000, integrator := 3000 * 2 ^ 24, force := 387000 }).chain 1192941 850 2500
    x.u = 10000 ∧ x.integrator = 3000 * 2 ^ 24 ∧ x.saturated = true ∧ x.shadowCompare = 2500 := by decide

theorem test_chain_leaves_saturation :
    let x := ({ peakTick with setpoint := 507000, integrator := 3000 * 2 ^ 24, force := 447000 }).chain 1192941 850 2500
    x.u = 9060 ∧ x.integrator = 51338268000 ∧ x.saturated = false ∧ x.shadowCompare = 2383 := by decide

theorem test_chain_from_rest :
    let x := ({ ramTwo with state := .active, setpoint := 18432, force := 18430 }).chain 0 1000 2500
    x.setpoint = 16432 ∧ x.u = -202 ∧ x.shadowCompare = 1225 ∧ x.slewLimited = true := by decide

theorem test_strain_cases : strainOf .quarter 2100 (-1250) 402750 = 7167 ∧ strainOf .full 625 0 524288 = 7813 ∧
    strainOf .full 625 0 (-524288) = -7813 ∧ strainOf .quarter 500 (-8388607) 8388607 = 1250000 := by decide

theorem test_location_cases : locate 12000 15000 4000 1250 1000 = 14000 ∧
    locate 12000 15000 4000 1000 1780 = 12000 ∧ locate 15000 18000 4000 260 0 = 17020 ∧
    locate 100000 101001 4000 1 0 = 100503 ∧ locate 12000 15000 4000 100 0xFFFFFF6A = 14000 := by decide

theorem test_window_cases : coincidenceWindow 12000 15000 4000 50 = 800 ∧
    coincidenceWindow 101001 100000 4000 50 = 301 := by decide

/-- The record of section 8.4. -/
def meanRecord : Crack :=
  { state := .suspect, xq := 223200, xLo := 13900, xHi := 14000, events := 3, windowEvents := 3,
    quietCount := 0, peakAmp := 60, refGroup := some 1, firstCycle := 0, confirmCycle := none,
    width := none, acknowledged := false }

theorem test_running_mean : (meanRecord.join 14000 70 fun _ => some 1).xq = 223400 ∧
    (meanRecord.join 14000 70 fun _ => some 1).xMm = 13963 ∧
    (meanRecord.join 14000 70 fun _ => some 1).events = 4 := by decide

/-- CRACK 4 and CRACK 2 of Table 8-7. -/
def crackFour : Crack :=
  { state := .active, xq := 160000, xLo := 9950, xHi := 10060, events := 10, windowEvents := 5,
    quietCount := 0, peakAmp := 80, refGroup := some 0, firstCycle := 60000, confirmCycle := some 70000,
    width := some { width := 25, inspectedCycle := 88000 }, acknowledged := false }

/-- CRACK 2 of Table 8-7. -/
def crackTwo : Crack :=
  { state := .quiet, xq := 161920, xLo := 10080, xHi := 10170, events := 6, windowEvents := 0,
    quietCount := 3, peakAmp := 66, refGroup := some 0, firstCycle := 70200, confirmCycle := some 75500,
    width := none, acknowledged := true }

theorem test_merge :
    crackTwo.merge crackFour (fun _ => some 0) =
      { state := .active, xq := 160720, xLo := 9950, xHi := 10170, events := 16, windowEvents := 5,
        quietCount := 0, peakAmp := 80, refGroup := some 0, firstCycle := 60000,
        confirmCycle := some 70000, width := some { width := 25, inspectedCycle := 88000 },
        acknowledged := false } ∧
      (crackTwo.merge crackFour fun _ => some 0).xMm = 10045 := by decide

/-- LIMIT 4 of section 9.7, standing CLEAR. -/
def limitFour : Limit :=
  { state := .clear, enabled := true, source := .ramForce, sourceKey := 2, compare := .above, set := 880000,
    clear := 860000, persistence := 3, action := .pauseNow, targets := 2 }

theorem test_limit_across_nine_sample_sets :
    (([870000, 881000, 875000, 859000, 885000, 890000, 882000, 870000, 855000] : List Int).scanl Limit.judge
        limitFour).map (fun l => (l.state, l.counter)) =
      [(.clear, 0), (.clear, 0), (.pending, 1), (.pending, 2), (.clear, 0), (.pending, 1), (.pending, 2),
       (.tripped, 0), (.tripped, 0), (.clear, 0)] := by decide

/-! ## States for the witnesses -/

/-- A part out of reset with pressure and no ESTOP, its port IDLE. -/
def calm : State := { State.powerOn .high .clear with port := { phase := .idle } }

/-- The state with the request of c in work. -/
def due (c : Instr) (s : State) : State := { s with port := { phase := .working, work := requestOf c } }

/-- The state with RAM 2 replaced. -/
def withRam (x : Ram) (s : State) : State := { s with rams := s.rams.set 2 x }

/-- The state with GROUP 1 replaced. -/
def withGroup (x : Group) (s : State) : State := { s with groups := s.groups.set 1 x }

/-- The state with STEP 16, the first of group 1, replaced. -/
def withStep (x : StepRec) (s : State) : State := { s with steps := s.steps.set 16 x }

/-- The counts of a scan: load and stroke of RAM 2, and 0 elsewhere. -/
def scan (load stroke : BitVec 16) : Vector (BitVec 16) 28 :=
  ((Vector.replicate 28 0).set 6 load).set 7 stroke

/-- A sampled part with RAM 2 configured and OFF. -/
def ready2 : State := withRam ramTwo { calm with sampled := true }

/-- A scan in progress with RAM 2 ACTIVE in group 1, which pauses. -/
def driven : State :=
  withGroup { state := .pause, command := 1200000 * 1024, pauseCause := .supervisor, derate := 850 }
    (withRam peakTick { calm with scanEnds := some 30000 })

/-- A state in which every block is busy: RAM 2 ACTIVE, group 1 cycling under an engaged DERATE limit on its crack,
a gauge read, a slot hit waiting, a round in READ, a request in work. -/
def busy : State :=
  { withStep cycleStep (withGroup { cyclingGroup 1073741750 with zoneLo := 9000, zoneHi := 21000, severity := 1, derate := 850 }
      (withRam peakTick calm)) with
    limits :=
      (Vector.replicate 24 none).set 7
        (some
          { state := .latched, enabled := true, source := .crackWidth, sourceKey := 1, set := 10, clear := 5,
            action := .derate, derate := 850, targets := 2, latching := true, value := some 25 })
    gauges :=
      (Vector.replicate 48 {}).set 0
        { enabled := true, state := .ok, count := some 402750,
          strain := some { now := 7167, peakMax := 7200, peakMin := 7167 } }
    apods :=
      ((Vector.replicate 16 {}).set 0 { enabled := true, state := .ok, positionMm := 12000 }).set 1
        { enabled := true, state := .ok, positionMm := 15000, received := 1, accepted := 1,
          slot := some { time := 0, amp := 60 } }
    cracks := (Vector.replicate 32 none).set 0 (some meanRecord)
    plan := { roundState := .read }
    round := { pods := [0], todo := [0], kind := .supervisor }
    port := { phase := .working, work := some ⟨0x01, []⟩ } }

/-- The outcome is a next state of which p says true. -/
abbrev After (o : Host.Outcome State Fault Refusal) (p : State → Bool) : Prop :=
  (match o with
    | .next t => p t
    | _ => false) = true

/-- A request with a code that is not one of the part's in work. -/
def unknownInWork : State := { calm with port := { phase := .working, work := some ⟨0x00, []⟩ } }

/-! ## Witnesses: machine, ticks, sample sets, hall inputs -/

theorem witness_EmptyQueue : State.reset.pending = [] ∧ State.reset.inReset = false ∧
    ({ State.reset with inReset := true } : State).pending = [] ∧ busy.pending = [] ∧
    busy.port.work = some ⟨0x01, []⟩ ∧ decodeRequest ⟨0x01, []⟩ = .command .identify ∧
    unknownInWork.port.work = some ⟨0x00, []⟩ ∧ decodeRequest ⟨0x00, []⟩ = .refused .unknown ∧
    (After (step unknownInWork) fun t => t.port.held = some (refuse .unknown)) := by decide +kernel

theorem witness_Ticks : calm.inReset = false ∧ calm.clk ≤ calm.pulseStart + calm.hall.pwmPeriod ∧
    0 < calm.hall.pwmPeriod := by decide

theorem witness_Outputs : (withRam { activeCompare := 0 } calm).rams[2].activeCompare = 0 ∧
    (withRam { activeCompare := 2500 } calm).rams[2].activeCompare = calm.hall.pwmPeriod ∧
    (withRam peakTick calm).rams[2].state = .active := by decide

theorem witness_SampleSetConverts : driven.inReset = false ∧ driven.scanEnds = some 30000 ∧
    driven.rams[0].state ≠ .active := by decide

theorem witness_ForceChain : driven.inReset = false ∧ driven.scanEnds = some 30000 ∧
    driven.rams[2].state = .active ∧
    (After (exec (.sampleSet (scan 8407 0)) driven)
        fun t => t.rams[2].state = .active ∧ t.rams[2].u = 2620) := by decide +kernel

theorem witness_SampleSetTrips_input :
    After (exec (.sampleSet (scan 0x8000 0)) driven)
        fun t => t.rams[2].tripCause = .input ∧ t.rams[2].state = .tripped := by decide +kernel

theorem witness_SampleSetTrips_input_high :
    After (exec (.sampleSet (scan 0x7FFF 0)) driven)
        fun t => t.rams[2].tripCause = .input ∧ t.rams[2].state = .tripped := by decide +kernel

theorem witness_SampleSetTrips_stroke :
    After (exec (.sampleSet (scan 8407 0x8000)) driven)
        fun t => t.rams[2].tripCause = .stroke ∧ t.rams[2].state = .tripped := by decide +kernel

theorem witness_SampleSetTrips_coil :
    After (exec (.sampleSet (scan 8407 0)) (withRam { peakTick with u := 2500, coilCount := 19 } driven))
        fun t => t.rams[2].tripCause = .coil ∧ t.rams[2].state = .tripped := by decide +kernel

theorem witness_SampleSetTrips_saturation :
    After (exec (.sampleSet (scan 0 0))
        (withRam { peakTick with integrator := 10000 * 2 ^ 24, satCount := 4000 } driven))
        fun t => t.rams[2].tripCause = .saturation ∧ t.rams[2].state = .tripped := by decide +kernel

theorem witness_HallInputs : driven.hall.estop = .clear ∧ driven.hall.hpuReady = .high ∧
    ({ calm with hall := { calm.hall with estop := .asserted, hpuReady := .low } } : State).hall.estop = .asserted := by
  decide

/-! ## Witnesses: ram requests -/

theorem witness_RamStart :
    let s := due (.ramStart (byte 2)) (withRam { ramTwo with stroke := -250000, loadCount := 32766 }
      (withGroup { severity := 4, state := .pause } ready2))
    Due (.ramStart (byte 2)) s ∧ s.sampled = true ∧ s.rams[2].state = .off ∧ 0 < s.rams[2].fsForce ∧
      s.hall.hpuReady = .high ∧ s.hall.estop = .clear ∧ s.groups[1].state = .pause ∧
      s.rams[2].strokeMin ≤ s.rams[2].stroke ∧ s.rams[2].stroke ≤ s.rams[2].strokeMax ∧
      s.rams[2].loadCount ≠ -32768 ∧ s.rams[2].loadCount ≠ 32767 ∧ s.groups[1].severity < 5 ∧
      (After (exec (.ramStart (byte 2)) s)
        fun t => t.rams[2].state = .active) := by decide +kernel

theorem witness_RamStart_refusals :
    Due (.ramStart 8) (due (.ramStart 8) ready2) ∧ Due (.ramStart 2) (due (.ramStart 2) calm) ∧
      calm.sampled = false ∧ ready2.rams[2].state = .off ∧ ready2.rams[2].fsForce ≠ 0 ∧
      ({ ready2 with hall := { ready2.hall with hpuReady := .low } } : State).hall.hpuReady = .low ∧
      (withRam { ramTwo with loadCount := 32767 } ready2).rams[2].loadCount = 32767 ∧
      (withGroup { severity := 5 } ready2).groups[1].severity = 5 := by decide +kernel

theorem witness_RamStop :
    Due (.ramStop 2) (due (.ramStop 2) (withRam peakTick calm)) ∧ (withRam peakTick calm).rams[2].state = .active ∧
      (withRam peakTick calm).groups[1].state = .idle ∧ driven.groups[1].state ≠ .idle ∧
      calm.rams[2].state = .off ∧ (withRam { state := .tripped } calm).rams[2].state = .tripped ∧
      Due (.ramStop 8) (due (.ramStop 8) calm) := by decide +kernel

theorem witness_RamClear :
    Due (.ramClear 2) (due (.ramClear 2) (withRam { state := .tripped, tripCause := .coil } calm)) ∧
      Due (.ramClear 2) (due (.ramClear 2) calm) ∧ Due (.ramClear 255) (due (.ramClear 255) calm) := by
  decide +kernel

theorem witness_OnlyRamStart :
    After (exec (.ramStart (byte 2)) (due (.ramStart (byte 2)) ready2))
        fun t => ready2.rams[2].state ≠ .active ∧ t.rams[2].state = .active := by decide +kernel

/-! ## Witnesses: the group advance -/

theorem witness_SampleSetAdvances :
    After (exec (.sampleSet (scan 8407 0)) driven)
        fun t => (∀ l : Fin 24, driven.limits[l] = none) ∧ ∀ r : Fin 8, t.rams[r].state = driven.rams[r].state := by decide +kernel

/-- Group 1 in RUN on a CYCLE step at a phase, with the trigger of its PEAKs armed and a round's latch held up by the
bus. -/
def cyclingAt (phase : Word) (windowCycles : Nat) : State :=
  { withStep cycleStep (withGroup { cyclingGroup phase with lifeCycles := 99, zoneHi := 100 } calm) with
    scanEnds := some 30000
    plan := { source := .both, trigGroup := 1, mode := .repeating, armed := true }
    round := { busFree := 40000 }
    crackset := { windowCycles := windowCycles }
    cracks := (Vector.replicate 32 none).set 0 (some { meanRecord with refGroup := some 1 }) }

/-- The counts of a scan that finds every input at 0. -/
def noCounts : Vector (BitVec 16) 28 := Vector.replicate 28 0

theorem witness_SampleSetHandsOn_peak :
    (∀ l : Fin 24, (cyclingAt 1073741750 100).limits[l] = none) ∧
      (After (exec (.sampleSet noCounts) (cyclingAt 1073741750 100))
        fun t => t.plan.roundState = .latch ∧ t.round.kind = .peak ∧ t.clk = 40000 ∧
          ∀ r : Fin 8, t.rams[r].state = (cyclingAt 1073741750 100).rams[r].state) := by decide +kernel

theorem witness_SampleSetHandsOn_trough :
    After (exec (.sampleSet noCounts) (cyclingAt 3221225250 100))
      fun t => t.plan.roundState = .latch ∧ t.round.kind = .trough := by decide +kernel

theorem witness_SampleSetHandsOn_wrap :
    (After (exec (.sampleSet noCounts) (cyclingAt 4294967000 100))
        fun t => t.groups[1].lifeCycles = 100 ∧ t.cracks[0].map (·.windowEvents) = some 0) ∧
      (After (exec (.sampleSet noCounts) (cyclingAt 4294967000 101))
        fun t => t.cracks[0].map (·.windowEvents) = some 3) := by decide +kernel

theorem witness_RestingGroups : ({ state := .unload, command := 50 } : Group).state = .unload ∧
    ((0 : Int) * 1024 - 50).natAbs ≤ 5120000 ∧ max 1 (roundDiv (10000 * 1024) 2000) < (5121 * 1024 : Int) := by decide

theorem witness_InspectAndLeadIn : (cyclingGroup 0).state = .run ∧
    ({ cyclingGroup 0 with cycling := .leadIn } : Group).cycling = .leadIn ∧ cycleStep.kind = .cycle := by decide

theorem witness_StepDone : ({ stepCount := 2, cursor := 0 } : Group).cursor + 1 < 2 ∧
    2 ≤ ({ stepCount := 2, cursor := 1 } : Group).cursor + 1 := by decide

/-- A RAMP of 10 moves of 5120 to the seat. -/
theorem witness_Ramp : let move : Int := max 1 (roundDiv (10000 * 1024) 2000)
    move * 9 < ((50 : Int) * 1024 - 0).natAbs ∧ ((50 : Int) * 1024 - 0).natAbs ≤ move * (9 + 1) := by decide

theorem witness_Dwell : ({ state := .run, dwellLeft := 2 } : Group).dwellLeft = 2 * 1 ∧ 0 < 2 * 1 ∧ 1 + 1 = 2 * 1 := by
  decide

theorem witness_Waveform : (cyclingGroup 1073741750).phase.toNat ≤
      ((cyclingGroup 1073741750).phase + (cyclingGroup 1073741750).phaseInc).toNat ∧
    ((cyclingGroup 4294967000).phase + (cyclingGroup 4294967000).phaseInc).toNat <
      (cyclingGroup 4294967000).phase.toNat := by decide

theorem witness_Wrap : 1 < (cyclingGroup 0).cyclesLeft ∧ ({ cyclingGroup 0 with cyclesLeft := 1 } : Group).cyclesLeft ≤ 1 ∧
    ({ cyclingGroup 0 with state := .ending } : Group).state = .ending := by decide

theorem witness_LifeCycles : calm.pending.head? = none ∧ (∃ t, step calm = .next t) :=
  ⟨rfl, _, rfl⟩

/-! ## Witnesses: group requests -/

/-- Group 1 IDLE with one CYCLE step and an ACTIVE ram. -/
def runnable : State := withStep cycleStep (withGroup { stepCount := 1, severity := 1 } (withRam peakTick calm))

theorem witness_GroupRunFromStep :
    let s := due (.groupRunFromStep (byte 1) 0) runnable
    Due (.groupRunFromStep (byte 1) 0) s ∧ (0 : Byte).toNat ≤ 15 ∧ s.groups[1].state = .idle ∧
      (∃ r : Fin 8, s.rams[r].group = 1 ∧ s.rams[r].state = .active) ∧
      (∀ r : Fin 8, s.rams[r].group = 1 → s.rams[r].state ≠ .tripped) ∧ s.groups[1].severity < 2 ∧
      (∀ i : Fin 16, i.val < s.groups[1].stepCount → (stepOf 1 i.val s).kind ≠ .empty) ∧
      (0 : Byte).toNat < s.groups[1].stepCount := by decide +kernel

theorem witness_GroupRunResume :
    let s := due (.groupRunResume (byte 1))
      (withGroup { stepCount := 1, state := .pause, stepEntered := true } runnable)
    Due (.groupRunResume (byte 1)) s ∧ s.groups[1].state = .pause ∧
      (∀ i : Fin 16, i.val < s.groups[1].stepCount → (stepOf 1 i.val s).kind ≠ .empty) ∧
      s.groups[1].cursor < s.groups[1].stepCount ∧ s.groups[1].stepEntered = true ∧
      runnable.groups[1].state = .idle := by decide +kernel

theorem witness_GroupRun_refusals :
    Due (.groupRunResume 4) (due (.groupRunResume 4) calm) ∧
      Due (.groupRunFromStep 1 16) (due (.groupRunFromStep 1 16) runnable) ∧
      (¬∃ r : Fin 8, calm.rams[r].group = 1 ∧ calm.rams[r].state = .active) ∧
      (withGroup { stepCount := 1, severity := 2 } runnable).groups[1].severity = 2 ∧
      (stepOf 1 1 runnable).kind = .empty ∧
      (withGroup { stepCount := 1, cursor := 1 } runnable).groups[1].stepCount ≤ 1 ∧
      runnable.groups[1].stepCount ≤ (1 : Byte).toNat := by decide +kernel

theorem witness_GroupPauses :
    Due (.groupPauseNow (byte 1)) (due (.groupPauseNow (byte 1)) busy) ∧
      Due (.groupPauseAtCycleEnd (byte 1)) (due (.groupPauseAtCycleEnd (byte 1)) busy) ∧
      busy.groups[1].state = .run ∧ driven.groups[1].state = .pause ∧ calm.groups[1].state = .idle ∧
      (withGroup { state := .ending } calm).groups[1].state = .ending ∧
      Due (.groupPauseNow 4) (due (.groupPauseNow 4) calm) ∧
      Due (.groupPauseAtCycleEnd 4) (due (.groupPauseAtCycleEnd 4) calm) := by decide +kernel

theorem witness_UnloadAndRelease :
    Due (.groupUnload (byte 1)) (due (.groupUnload (byte 1)) busy) ∧
      (∃ r : Fin 8, busy.rams[r].group = 1 ∧ busy.rams[r].state = .active) ∧
      Due (.groupRelease (byte 1)) (due (.groupRelease (byte 1)) (withStep { kind := .inspect } busy)) ∧
      (stepOf 1 0 (withStep { kind := .inspect } busy)).kind = .inspect ∧
      Due (.groupUnload 4) (due (.groupUnload 4) calm) ∧ Due (.groupRelease 255) (due (.groupRelease 255) calm) := by
  decide +kernel

theorem witness_OnlyGroupRun :
    After (exec (.groupRunFromStep (byte 1) 0) (due (.groupRunFromStep (byte 1) 0) runnable))
        fun t => runnable.groups[1].state ≠ .run ∧ t.groups[1].state = .run := by decide +kernel

/-! ## Witnesses: rounds -/

/-- The state with its PLAN and round replaced. -/
def withPlan (p : Plan) (r : Round) (s : State) : State := { s with plan := p, round := r }

theorem witness_RoundStart_waits_for_the_bus :
    let s : State := withPlan { trigGroup := 1 } { busFree := 40 * 7 } driven
    (roundStart .peak false s).clk = 280 ∧ (roundStart .peak false s).round.latchTime = 7 ∧
      (roundStart .peak false s).round.trigCommand = 1200000 := by decide +kernel

/-- A trig_group WRITE in DELAY does not change the group of the round in flight (R72). -/
theorem test_round_keeps_its_group :
    let s : State := withPlan { trigGroup := 0, roundState := .delay } { group := 1 } driven
    After (exec .delayExpiry s) fun t => t.round.trigCommand = 1200000 := by decide +kernel

theorem witness_RoundStart : 0 < (withPlan { delayPeriods := 1 } {} calm).plan.delayPeriods ∧
    calm.plan.delayPeriods = 0 ∧ calm.plan.busState = .ok ∧
    (withPlan { busState := .fault } {} calm).plan.busState = .fault := by decide

theorem witness_Triggers : ((1 : Fin 4) = ({ source := .both, trigGroup := 1 } : Plan).trigGroup) ∧
    ({ mode := .repeating, armed := true } : Plan).mode ≠ .cyclic ∧ calm.plan.armed = false ∧
    ({ mode := .single, armed := true, roundState := .read } : Plan).roundState ≠ .idle := by decide

theorem witness_RoundTimers :
    (withPlan { source := .timed } { intervalCount := 0 } calm).round.intervalCount = 0 ∧
      (withPlan { mode := .cyclic, armed := true } { cyclicDue := true } calm).round.cyclicDue = true ∧
      (withPlan { roundState := .delay } { delayCount := 0 } calm).round.delayCount = 0 ∧
      (withPlan { roundState := .delay, busState := .fault } {} calm).plan.busState = .fault ∧
      calm.plan.source ≠ .timed ∧ calm.round.cyclicDue = false ∧ calm.plan.roundState ≠ .delay := by decide

theorem witness_RoundRequests : Due .gaugeRound (due .gaugeRound calm) ∧ Due .gaugeRound (due .gaugeRound busy) ∧
    busy.plan.roundState ≠ .idle ∧ Due .gaugeArmArm (due .gaugeArmArm calm) ∧
    Due .gaugeArmDisarm (due .gaugeArmDisarm calm) := by decide +kernel

theorem witness_LatchAndWait :
    (withPlan { roundState := .latch } { pods := [0] } calm).plan.roundState = .latch ∧
      (withPlan { roundState := .latch } { pods := [0] } calm).round.restarting = false ∧
      (withPlan { roundState := .latch } {} calm).round.pods = [] ∧
      (withPlan { roundState := .wait } {} calm).plan.roundState = .wait := by decide

/-- A read in progress since count 1000, with stretch_limit_us raised from 2000 to 10000 at count 3000. -/
def stretched : State :=
  { withPlan { roundState := .read } { pods := [0, 1], todo := [0, 1], busStart := 1000, limitWrites := [(3000, 2000)] } calm
    with hall := { calm.hall with stretchLimitUs := 10000 }, clk := 4000 }

theorem test_stretch_keeps_its_limit :
    stretchLimitAt 2999 stretched = 2000 ∧ stretchLimitAt 3000 stretched = 10000 ∧
      (After (exec .stretchTimeout stretched) fun t => t.clk = 81000) ∧
      (After (exec .stretchTimeout { stretched with clk := 82999 }) fun t => t.clk = 82999) ∧
      (After (exec .stretchTimeout { stretched with clk := 83000 }) fun t => t.clk = 403000) := by decide +kernel

/-- A limit lowered in a stretch governs the stretches after it, which can end sooner. -/
theorem test_stretch_under_a_lowered_limit :
    let s : State := { stretched with
      hall := { stretched.hall with stretchLimitUs := 100 }, round := { stretched.round with limitWrites := [(3000, 2000)] } }
    stretchEnd s = 7000 ∧ stretchEnd { s with clk := 90000 } = 90000 := by decide +kernel

theorem witness_Stretch_release : stretched.round.restarting = false ∧ stretched.round.todo = 0 :: [1] ∧
    stretched.round.limitWrites = [] ++ (3000, 2000) :: [] ∧ 2999 < 3000 ∧
    (∀ w ∈ stretched.round.limitWrites, w.1 ≤ stretched.clk) ∧ stretched.round.busStart ≤ 1000 ∧
    stretched.clk ≤ 1000 + 40 * stretchLimitAt 1000 stretched ∧ busy.round.limitWrites = [] ∧
    stretchEnd busy = 80000 ∧ (withPlan { roundState := .latch } {} calm).plan.roundState = .latch ∧
    (withPlan { roundState := .clear } {} calm).plan.roundState ≠ .latch := by decide +kernel

theorem witness_Stretch : busy.plan.roundState = .read ∧ busy.round.restarting = false ∧ busy.round.todo = [0] ∧
    (withPlan { roundState := .read } { restarting := true } calm).round.restarting = true := by decide +kernel

/-- A good reply of a pod with all counts 0: its check byte is 0. -/
def zeroReply : PodReply := .bits (Vector.replicate 112 false)

/-- R65, R68, R187: the latch broadcast 00 5C and the read of pod 0, bit by bit on SDA with the acknowledge bits. -/
theorem test_bus_levels :
    busLevels (withPlan { roundState := .latch } {} calm) =
        [false, false, false, false, false, false, false, false, true,
          false, true, false, true, true, true, false, false, true] ∧
      (busLevels stretched).take 18 =
        [false, true, true, false, false, false, false, true, true,
          true, true, true, true, true, true, true, true, false] ∧
      (busLevels stretched).length = 135 ∧ (busLevels stretched).getLast? = some true ∧
      busLevels calm = [] := by decide +kernel

/-- R60, R61, R62, R188: SCL is low in the low half of the 18 bits of a broadcast, the 135 of a read and the nine pulses of a
clear, and released in the high half, outside rounds and in reset. -/
theorem test_scl :
    let clear := withPlan { roundState := .clear } {} calm
    clockBits (withPlan { roundState := .latch } {} calm) = 18 ∧ clockBits stretched = 135 ∧
      sclReleased 134 .low stretched = false ∧ sclReleased 134 .high stretched = true ∧
      sclReleased 135 .low stretched = true ∧ sclReleased 8 .low clear = false ∧ sdaReleased 8 clear = true ∧
      sclReleased 9 .low clear = true ∧ sclReleased 0 .low calm = true ∧
      sclReleased 0 .low { clear with inReset := true } = true ∧
      sdaReleased 0 { stretched with inReset := true } = true ∧ sdaReleased 0 stretched = false := by
  decide +kernel

theorem witness_BusReleased : calm.plan.roundState = .idle ∧
    (withPlan { roundState := .delay } {} calm).plan.roundState = .delay ∧
    (withPlan { roundState := .wait } {} calm).plan.roundState = .wait ∧ calm.inReset = false := by decide +kernel

/-- R77: a read that a RESTART ends in the second byte of the pod: the first is acknowledged, the second is not and is the
last; a latch broadcast ends with the general call; and the levels of the byte in progress leave every acknowledge bit of a
pod's byte released. -/
theorem test_restart_does_not_acknowledge :
    let s : State := { stretched with round := { stretched.round with restarting := true } }
    endedLevels 2 s =
        [false, true, true, false, false, false, false, true, true,
          true, true, true, true, true, true, true, true, false,
          true, true, true, true, true, true, true, true, true] ∧
      (busLevels s).drop 9 = List.replicate 126 true ∧
      endedLevels 0 (withPlan { roundState := .latch } { restarting := true } calm) = List.replicate 8 false ++ [true] := by
  decide +kernel

/-- R68, R187: the first level of a pod's reply is the most significant bit of its status byte. -/
theorem test_pod_bytes : (podBytes ((Vector.replicate 112 false).set 0 true))[0] = 0x80 ∧
    (podBytes ((Vector.replicate 112 false).set 111 true))[13] = 1 := by decide +kernel

/-- With no limit defined, none is on a group's cracks or a pod's gauges. -/
theorem no_limit_of_empty {s : State} (h : ∀ i : Fin 24, s.limits[i] = none) (g : Fin 4) (p : Fin 12) :
    NoCrackLimit s g ∧ NoStrainLimit s p :=
  ⟨fun i _ hl => (Option.some_ne_none _ (hl.symm.trans (h i))).elim,
    fun i _ hl => (Option.some_ne_none _ (hl.symm.trans (h i))).elim⟩

/-- R84, R89: the first miss of a run marks the pod alone; the miss that reaches stale_limit marks its gauge too. -/
theorem witness_Misses_mark :
    (∀ p, NoStrainLimit stretched p) ∧
      (After (exec (.podReadDone .nack) stretched)
        fun t => t.marks.gpod[0] = true ∧ t.marks.gpod[1] = false ∧ t.marks.gauge[0] = false) ∧
      (After (exec (.podReadDone .nack) { busy with gpods := busy.gpods.set 0 { consecutiveMisses := 2 } })
        fun t => t.marks.gpod[0] = busy.marks.gpod[0] ∧ t.gauges[0].state = .stale ∧ t.marks.gauge[0] = true) :=
  ⟨fun p => (no_limit_of_empty (by decide +kernel) 0 p).2, by decide +kernel⟩

theorem witness_PodRead : busy.inReset = false ∧ busy.plan.roundState = .read ∧ busy.round.restarting = false ∧
    busy.round.todo = 0 :: [] ∧
    (After (exec (.podReadDone zeroReply) busy)
        fun t => t.plan.podsRead = 1 ∧ t.gpods[0].reads = 1) ∧
    (After (exec (.podReadDone .nack) busy)
        fun t => t.plan.podsMissed = 1 ∧ t.gpods[0].lastMiss = .noAck) := by decide +kernel

theorem witness_BusClearSuccess :
    let s (why : ClearReason) (pods : List (Fin 12)) : State :=
      withPlan { roundState := .clear } { clearFor := why, pods := pods, todo := pods } calm
    (s .start []).plan.roundState = .clear ∧ (s .latch [0]).round.pods ≠ [] ∧ (s .latch []).round.pods = [] ∧
      (After (exec (.busClearDone (.sdaHigh 8)) (s .latch []))
        fun t => t.plan.roundState = .idle ∧ t.plan.roundNumber = 1 ∧ t.clk = 4000) ∧
      (s .pod [0, 1]).round.todo.tail ≠ [] ∧ (s .pod [0]).round.todo.tail = [] ∧
      (withPlan { roundState := .clear } { restarting := true } calm).round.restarting = true := by decide +kernel

theorem witness_BusClearFailure :
    let s : State := withPlan { roundState := .clear } { clearFor := .pod, pods := [0, 1, 2], todo := [1, 2] } calm
    s.plan.roundState = .clear ∧ s.round.restarting = false ∧ s.round.todo.tail.Nodup ∧
      (After (exec (.busClearDone .sclHeld) s)
        fun t => t.plan.podsMissed = 1 ∧ t.plan.busState = .fault ∧ t.clk = 80000) ∧
      (After (exec (.busClearDone .sdaLow) s) fun t => t.plan.podsMissed = 1 ∧ t.clk = 3600) ∧
      (After (exec (.busClearDone .sdaLow) (withPlan { roundState := .clear } { restarting := true } calm))
        fun t => t.plan.roundState = .idle ∧ t.plan.roundNumber = 0) := by decide +kernel

/-! ## Witnesses: gauges -/

theorem witness_Reading : (busy.gauges[0]).zeroPending = false ∧
    ({ zeroPending := true } : Gauge).zeroPending = true ∧ ({} : Gauge).strain = none ∧
    (busy.gauges[0]).strain = some { now := 7167, peakMax := 7200, peakMin := 7167 } := by decide +kernel

theorem witness_StrainRange : 500 ≤ 500 ∧ (-8388607 : Int) ≤ -8388607 ∧ (8388607 : Int) ≤ 8388607 ∧
    strainOf .quarter 500 8388607 (-8388608) = -1250000 := by decide

theorem witness_GaugeRequests : Due (.gaugeZero (byte 0)) (due (.gaugeZero (byte 0)) busy) ∧
    busy.gauges[0].enabled = true ∧ busy.gauges[47].enabled = false ∧
    Due (.gaugeZero 0xFF) (due (.gaugeZero 0xFF) busy) ∧ Due (.gaugeZero 48) (due (.gaugeZero 48) busy) ∧
    Due (.peakReset (byte 0)) (due (.peakReset (byte 0)) busy) ∧
    Due (.peakReset 0xFF) (due (.peakReset 0xFF) busy) ∧ Due (.peakReset 254) (due (.peakReset 254) busy) := by
  decide +kernel

theorem witness_PodCounters : Due (.podCountersClear (byte 15)) (due (.podCountersClear (byte 15)) busy) ∧
    Due (.podCountersClear 0xFF) (due (.podCountersClear 0xFF) busy) ∧
    Due (.podCountersClear 16) (due (.podCountersClear 16) busy) := by decide +kernel

theorem witness_GaugeWrites :
    IsGaugeWrite (.gaugeEnable (byte 0) [1, 1]) 0 [1, 1] ∧
      Passes (.gaugeEnable (byte 0) [1, 1]) (.gauge 0) [1, 1] [(1, 1)] (due (.gaugeEnable (byte 0) [1, 1]) busy) ∧
      Passes (.gaugeEnable (byte 1) [1, 1]) (.gauge 1) [1, 1] [(1, 1)] (due (.gaugeEnable (byte 1) [1, 1]) busy) ∧
      Passes (.gaugeDisable (byte 0) [1, 0]) (.gauge 0) [1, 0] [(1, 0)] (due (.gaugeDisable (byte 0) [1, 0]) busy) ∧
      Passes (.write 5 (byte 1) [2, 1, 244]) (.gauge 1) [2, 1, 244] [(2, 500)]
        (due (.write 5 (byte 1) [2, 1, 244]) busy) ∧
      (busy.gauges[0].enabled = true ↔ busy.gauges[0].state ≠ .disabled) ∧
      (busy.gauges[1].enabled = true ↔ busy.gauges[1].state ≠ .disabled) ∧
      carried 1 [(1, 1)] = some 1 := by decide +kernel

/-! ## Witnesses: the acoustic line and hits -/

theorem witness_APodWrites :
    Passes (.apodEnable (byte 2) [1, 1, 2, 0, 0, 58, 152]) (.apod 2) [1, 1, 2, 0, 0, 58, 152] [(1, 1), (2, 15000)]
        (due (.apodEnable (byte 2) [1, 1, 2, 0, 0, 58, 152]) busy) ∧
      busy.apods[1].positionMm = 15000 ∧
      Passes (.apodEnable (byte 2) [1, 1]) (.apod 2) [1, 1] [(1, 1)] (due (.apodEnable (byte 2) [1, 1]) busy) ∧
      Passes (.apodEnable (byte 1) [1, 1]) (.apod 1) [1, 1] [(1, 1)] (due (.apodEnable (byte 1) [1, 1]) busy) ∧
      Passes (.apodDisable (byte 1) [1, 0]) (.apod 1) [1, 0] [(1, 0)] (due (.apodDisable (byte 1) [1, 0]) busy) ∧
      Passes (.write 7 (byte 2) [2, 0, 3, 208, 144]) (.apod 2) [2, 0, 3, 208, 144] [(2, 250000)]
        (due (.write 7 (byte 2) [2, 0, 3, 208, 144]) busy) ∧
      (busy.apods[2].enabled = true ↔ busy.apods[2].state ≠ .disabled) ∧
      (busy.apods[1].enabled = true ↔ busy.apods[1].state ≠ .disabled) := by decide +kernel

/-- The state with its line replaced. -/
def withLine (l : Line) (s : State) : State := { s with line := l }

theorem witness_SlotsPoll : LowestEnabled busy none 0 ∧ LowestEnabled busy (some 0) 1 ∧ NoneEnabled busy (some 1) ∧
    NoneEnabled calm none ∧ (withLine { sweep := .on (some 0) } busy).line.sweep = .on (some 0) := by
  unfold LowestEnabled NoneEnabled
  decide +kernel

theorem witness_SlotsOpen : busy.crackset.lineState = .ok ∧ busy.line.frame = .idle ∧ busy.line.timeDue = false ∧
    (withLine { frame := .settling 0, timeDue := true } calm).line.frame = .settling 0 ∧
    (setLineState .stuck calm).crackset.lineState = .stuck ∧
    (withLine { frame := .held (.poll 0 15) } busy).line.frame = .held (.poll 0 15) ∧
    busy.apods[0].enabled = true ∧ calm.apods[0].enabled = false ∧
    (withLine { frame := .held .time } calm).line.frame = .held .time ∧
    (withLine { frame := .held .again } calm).line.frame = .held .again := by decide +kernel

theorem witness_Frames : (withLine { frame := .time 0 } calm).line.frame = .time 0 ∧
    (withLine { frame := .quiet 0 3120 } calm).line.frame = .quiet 0 3120 ∧ calm.inReset = false := by decide

theorem witness_FailedPolls :
    let s := withLine { frame := .poll 0 0 true } busy
    s.inReset = false ∧ s.line.frame = .poll 0 0 true ∧ s.apods[0].enabled = true ∧
      s.clk ≤ 0 + 40 * (4 * 0 + 2) ∧ receive [] = .waiting [] ∧ receive (sent [1, 0]) = .waiting [1, 0] ∧
      receive (sent [7]) = .failed 1 ∧
      (After (exec (.replyTimeout (sent [1, 0])) s) fun t => t.apods[0].lastOutcome = .gap ∧ t.clk = 8000) ∧
      (After (exec .replyFrameError s) fun t => t.apods[0].lastOutcome = .frameError ∧ t.clk = 3120) ∧
      (After (exec (.replyReceived [lineBits 1, 0]) s) fun t => t.apods[0].lastOutcome = .frameError ∧ t.clk = 4720) ∧
      (After (exec .contention s) fun t => t.apods[0].lastOutcome = .contention ∧ t.clk = 80) ∧
      (After (exec .contention { s with clk := 81 }) fun t => t.clk = 240) ∧
      (After (exec .contention { s with clk := 1520 }) fun t => t.clk = 1520 ∧ t.crackset.contentionCount = 1) ∧
      (After (exec .contention { s with clk := 1521 }) fun t => t = { s with clk := 1521 }) := by decide +kernel

theorem witness_TimeFrame_contention :
    let s := withLine { frame := .time 0 } busy
    s.line.frame = .time 0 ∧
      (After (exec .contention { s with clk := 7920 }) fun t => t.crackset.contentionCount = 1 ∧ t.clk = 7920) ∧
      (After (exec .contention { s with clk := 7921 }) fun t => t.crackset.contentionCount = 0) := by decide +kernel

theorem witness_Replies_complete :
    receive (sent ([0x80] ++ [0x89])) = .complete ([0x80] ++ [0x89]) ∧
      receive (sent [1, 0, 0, 0, 0, 101, 0]) = .complete [1, 0, 0, 0, 0, 101, 0] ∧
      (After (exec (.replyReceived (sent [0x80, 0x89])) (withLine { frame := .poll 0 0 true } busy))
        fun t => t.apods[0].lastOutcome = .good ∧ t.apods[0].podOverflows = 1 ∧ t.clk = 4800) := by decide +kernel

/-- The first multiple of 100,000 µs falls due once, and the next one after it; hall time wraps at 2 to the 32. -/
theorem test_time_frames_fall_due_once :
    (After (exec .timeFrameDue calm) fun t => t.clk = 4000000 ∧ t.line.nextTime = 200000) ∧
      (After (exec .timeFrameDue (withLine { nextTime := 4294900000 } calm))
        fun t => t.line.nextTime = 4294967296) := by decide +kernel

/-- The reply of section 11.4: no hits, the overflow flag set. -/
theorem witness_Replies_overflow : (0x80 : Byte).toNat % 8 = ([] : List (Word × Byte)).length ∧
    crc8 [0x80] = 0x89 ∧ crc8 [0x80] ≠ 0x88 := by decide +kernel

theorem witness_Replies_loud_hit :
    (0x01 : Byte).toNat % 8 = [((0 : Word), (101 : Byte))].length ∧ 100 < (101 : Byte).toNat := by decide

theorem witness_Pulses : calm.crackset.lineState = .ok ∧ lineIdle calm = true ∧
    lineIdle (withLine { frame := .poll 0 0 true } calm) = false ∧
    (withLine { sweep := .on none } calm).line.sweep ≠ .off ∧
    lineIdle (withLine { frame := .held (.poll 0 15) } calm) = true := by decide

theorem witness_Hits : PodLaw busy := by
  unfold PodLaw
  decide +kernel

theorem witness_Hits_amplitude : busy.apods[0].enabled = true ∧ 44 < busy.crackset.minAmpDb ∧
    busy.crackset.minAmpDb ≤ 45 := by decide +kernel

theorem witness_Hits_too_old : TooOld { busy with clk := 40 * 20001 } 0 ∧ ¬TooOld { busy with clk := 40 * 20000 } 0 := by
  unfold TooOld
  decide +kernel

theorem witness_Hits_pair : UpperNeighbour busy 0 1 ∧ busy.apods[1].slot = some { time := 0, amp := 60 } ∧
    ¬TooOld busy 0 ∧ (∀ q : Fin 16, q ≠ 1 → busy.apods[q].slot = none) ∧
    (hitArrival 0 { time := 800, amp := 45 } busy).apods[0].paired = 1 ∧
    (hitArrival 0 { time := 801, amp := 45 } busy).apods[0].slot = some { time := 801, amp := 45 } := by
  unfold UpperNeighbour TooOld
  decide +kernel

/-! ## Witnesses: cracks -/

theorem witness_Located_join : busy.cracks[0] = some meanRecord ∧
    ((14100 : Int) - meanRecord.xMm).natAbs ≤ busy.crackset.radiusMm ∧
    (∀ d : Fin 32, d ≠ 0 → busy.cracks[d] = none) ∧
    (locatedEvent 14100 70 0 busy).cracks[0].map (·.events) = some 4 := by decide +kernel

theorem witness_Located_create : busy.crackset.radiusMm < ((14101 : Int) - meanRecord.xMm).natAbs ∧
    busy.cracks[1] = none ∧ (locatedEvent 14101 70 0 busy).cracks[1].map (·.xMm) = some 14101 := by decide +kernel

theorem witness_Located_lost :
    let s : State := { calm with cracks := Vector.replicate 32 (some meanRecord) }
    (∀ d : Fin 32, s.cracks[d] ≠ none) ∧ (locatedEvent 100 70 0 s).crackset.eventsLost = 1 := by decide +kernel

theorem witness_Windows : meanRecord.refGroup = some 1 ∧ meanRecord.state = .suspect ∧ 0 < meanRecord.windowEvents ∧
    ({ meanRecord with windowEvents := 0, quietCount := 2 } : Crack).windowEvents = 0 ∧
    ({ crackFour with windowEvents := 20 } : Crack).state ≠ .suspect ∧ 0 < calm.crackset.activeEvents ∧
    3 % 3 = 0 := by decide

theorem witness_FindCrack : Due (.findCrack 250000) (due (.findCrack 250000) busy) ∧
    Due (.findCrack 250001) (due (.findCrack 250001) busy) ∧ Due (.findCrack 0) (due (.findCrack 0) calm) ∧
    (∀ c : Fin 32, calm.cracks[c] = none) := by decide +kernel

theorem witness_CrackRequests : Due (.crackAck (byte 0)) (due (.crackAck (byte 0)) busy) ∧
    Due (.crackRetire (byte 0)) (due (.crackRetire (byte 0)) busy) ∧
    Due (.crackWidth (byte 0) 10000) (due (.crackWidth (byte 0) 10000) busy) ∧
    Due (.crackWidth (byte 0) 10001) (due (.crackWidth (byte 0) 10001) busy) ∧ busy.cracks[0] = some meanRecord ∧
    meanRecord.acknowledged = false ∧ crackTwo.acknowledged = true ∧ busy.cracks[31] = none ∧
    Due (.crackAck 32) (due (.crackAck 32) busy) := by decide +kernel

/-- CRACK 2 and CRACK 4 of Table 8-7 in their slots. -/
def twoCracks : State :=
  { calm with cracks := ((Vector.replicate 32 none).set 2 (some crackTwo)).set 4 (some crackFour) }

theorem witness_CrackMerge : Due (.crackMerge (byte 4) (byte 2)) (due (.crackMerge (byte 4) (byte 2)) twoCracks) ∧
    twoCracks.cracks[2] = some crackTwo ∧ twoCracks.cracks[4] = some crackFour ∧
    Due (.crackMerge 2 2) (due (.crackMerge 2 2) twoCracks) ∧
    Due (.crackMerge 32 2) (due (.crackMerge 32 2) twoCracks) := by decide +kernel

/-- R143: a merge marks its two slots and no other. -/
theorem witness_CrackMerge_rests :
    (∀ g, NoCrackLimit (due (.crackMerge (byte 4) (byte 2)) twoCracks) g) ∧
      (After (exec (.crackMerge (byte 4) (byte 2)) (due (.crackMerge (byte 4) (byte 2)) twoCracks))
        fun t => ∀ d : Fin 32, t.marks.crack[d] = decide (d = 2 ∨ d = 4)) :=
  ⟨fun g => (no_limit_of_empty (by decide +kernel) g 0).1, by decide +kernel⟩

/-! ## Witnesses: limits and WRITE -/

theorem witness_Evaluation : limitFour.related = true ∧ 1 ≤ limitFour.persistence ∧ limitFour.state = .clear ∧
    limitFour.set < 880001 ∧ (859999 : Int) < limitFour.clear ∧
    ({ limitFour with state := .pending, counter := 1 } : Limit).counter + 1 < 3 ∧
    3 ≤ ({ limitFour with state := .pending, counter := 2 } : Limit).counter + 1 := by decide

theorem witness_Sources : limitFour.sourceKey = (2 : Fin 8).val ∧ limitFour.source = .ramForce ∧
    ({ limitFour with source := .gaugeStrain, sourceKey := 0 } : Limit).source = .gaugeStrain ∧
    busy.gauges[0].state = .ok ∧ busy.gauges[47].state ≠ .ok ∧
    busy.limits[7].map (·.source) = some .crackWidth := by decide +kernel

/-- R30, R150: a RAM_STROKE limit reads 0 from an unconfigured ram, whose record keeps its converted stroke. -/
theorem test_stroke_limit_on_an_unconfigured_ram :
    let l : Limit := { limitFour with source := .ramStroke }
    let x : Ram := ({} : Ram).convert 100 32767 0
    x.stroke = 250000 ∧ x.fsForce = 0 ∧ sourceValue l (withRam x calm) = some 0 ∧
      sourceValue l (withRam { x with fsForce := 1000 } calm) = some 250000 := by decide +kernel

theorem witness_Actions : busy.groups[1].state = .run ∧ driven.groups[1].state = .pause ∧
    (∃ r : Fin 8, busy.rams[r].group = 1 ∧ busy.rams[r].state = .active) ∧ calm.groups[1].state = .idle := by
  decide +kernel

/-- R21, R23: a PAUSE_AT_CYCLE_END in ENDING sets pause_cause LIMIT, and marks the group where that is a change. -/
theorem witness_Actions_ending :
    let s (c : PauseCause) : State := withGroup { state := .ending, pauseCause := c } calm
    (s .supervisor).groups[1].state = .ending ∧
      (applyAction .pauseAtCycleEnd 1 (s .supervisor)).groups[1].pauseCause = .limit ∧
      (applyAction .pauseAtCycleEnd 1 (s .supervisor)).marks.group[1] = true ∧
      (applyAction .pauseAtCycleEnd 1 (s .limit)).marks.group[1] = false := by decide +kernel

/-- LIMIT 4 defined in slot 4, at its third consecutive evaluation. -/
def thirdEvaluation : State :=
  { withRam { peakTick with force := 882000 } calm with
    limits := (Vector.replicate 24 none).set 4 (some { limitFour with state := .pending, counter := 2 }) }

theorem witness_Evaluation_engages : thirdEvaluation.limits[4] = some { limitFour with state := .pending, counter := 2 } ∧
    (evalLimit 4 thirdEvaluation).limits[4].map (·.state) = some .tripped ∧
    (evalLimit 4 thirdEvaluation).groups[1].severity = 3 := by decide +kernel

/-- The state with limit l alone in slot 4. -/
def withLimit (l : Limit) (s : State) : State := { s with limits := (Vector.replicate 24 none).set 4 (some l) }

theorem witness_Evaluation_none : calm.limits[4] = none ∧
    (withLimit { limitFour with state := .disabled } calm).limits[4].map (·.state) = some .disabled := by
  decide +kernel

/-- A limit in slot 4 on the cracks of group 1. -/
def crackLimit : Limit :=
  { limitFour with source := .crackCount, sourceKey := 1, set := 0, clear := 0, persistence := 1 }

/-- A limit in slot 4 on gauge 0. -/
def gaugeLimit : Limit := { limitFour with source := .gaugeStrain, sourceKey := 0, persistence := 1 }

theorem witness_Notices : ({ limitFour with targets := 2 } : Limit).targets.getLsbD 1 = true ∧
    limitFour.targets.getLsbD 0 = false ∧ busy.rams[2].group = 1 ∧
    (notifyEngage { limitFour with action := .trip } (withRam peakTick busy)).rams[2].state = .tripped := by
  decide +kernel

theorem witness_OnlyLimit : OnlyLimit thirdEvaluation 4 { limitFour with state := .pending, counter := 2 } ∧
    OnlyLimit (withLimit crackLimit busy) 4 crackLimit ∧ OnlyLimit (withLimit gaugeLimit busy) 4 gaugeLimit := by
  decide +kernel

theorem witness_Events_plant :
    After (exec (.sampleSet noCounts) (withLimit { limitFour with source := .aux, set := -1, clear := -1, persistence := 1 } driven))
      fun t => t.limits[4].map (·.state) = some .tripped := by decide +kernel

theorem witness_Events_gauges : (withLimit gaugeLimit busy).gauges[0].state ≠ .stale ∧
    (podOf 0 ∈ (withLimit gaugeLimit busy).round.pods) ∧
    (After (exec (.podReadDone zeroReply) (withLimit { gaugeLimit with set := -1, clear := -1 } busy))
        fun t => t.limits[4].map (·.state) = some .tripped) ∧
    (After (exec (.gaugeDisable (byte 0) [1, 0]) (due (.gaugeDisable (byte 0) [1, 0]) (withLimit gaugeLimit busy)))
        fun t => t.gauges[0].state ≠ busy.gauges[0].state) := by decide +kernel

theorem witness_Events_cracks :
    let s := withLimit crackLimit busy
    busy.cracks[0] = some meanRecord ∧ meanRecord.refGroup = some 1 ∧ meanRecord.acknowledged = false ∧
      Due (.crackAck (byte 0)) (due (.crackAck (byte 0)) s) ∧
      Due (.crackWidth (byte 0) 10000) (due (.crackWidth (byte 0) 10000) s) ∧
      Due (.crackRetire (byte 0)) (due (.crackRetire (byte 0)) s) ∧
      (After (exec (.crackWidth (byte 0) 10000) (due (.crackWidth (byte 0) 10000) s))
        fun t => t.limits[4].map (·.state) = some .tripped) ∧
      zoneOf 14101 s = some 1 ∧ s.cracks[1] = none ∧
      ((closeWindow 1 { (withoutLimit 4 s) with
          cracks := s.cracks.set 0 (some { meanRecord with windowEvents := 0, quietCount := 2 }) }).cracks[0]) = none ∧
      (After (exec (.zoneWrite (byte 1) [13, 0, 0, 58, 152]) (due (.zoneWrite (byte 1) [13, 0, 0, 58, 152]) (withoutLimit 4 s)))
        fun t => t.cracks[0].bind (·.refGroup) = none) := by decide +kernel

theorem witness_Events_merge :
    let s := withLimit { crackLimit with sourceKey := 0, set := -1, clear := -1 } twoCracks
    Due (.crackMerge (byte 4) (byte 2)) (due (.crackMerge (byte 4) (byte 2)) s) ∧ crackFour.refGroup = some 0 ∧
      (After (exec (.crackMerge (byte 4) (byte 2)) (due (.crackMerge (byte 4) (byte 2)) s))
        fun t => t.limits[4].map (·.state) = some .tripped) := by decide +kernel

theorem witness_FieldsMayBeWritten :
    letsWrite busy .hall 4 = false ∧ letsWrite calm .hall 4 = true ∧ letsWrite (withRam peakTick calm) .hall 3 = false ∧
      letsWrite busy (.gauge 0) 2 = false ∧ letsWrite busy (.gauge 1) 2 = true ∧ letsWrite busy (.apod 0) 2 = false ∧
      letsWrite busy (.limit 7) 3 = false ∧ letsWrite busy (.limit 7) 2 = true := by decide +kernel

/-- The items of a limit that is defined and enabled at once: compare BELOW with set 0 and clear 0. -/
theorem witness_LimitWrites :
    Passes (.limitDefine (byte 0) [6, 1, 2, 1]) (.limit 0) [6, 1, 2, 1] [(6, 1), (2, 1)]
        (due (.limitDefine (byte 0) [6, 1, 2, 1]) calm) ∧
      Passes (.limitDefine (byte 0) [8, 0, 0, 0, 1]) (.limit 0) [8, 0, 0, 0, 1] [(8, 1)]
        (due (.limitDefine (byte 0) [8, 0, 0, 0, 1]) calm) ∧
      Passes (.limitEdit (byte 4) [9, 255]) (.limit 4) [9, 255] [(9, 255)]
        (due (.limitEdit (byte 4) [9, 255]) thirdEvaluation) ∧
      Passes (.limitDisable (byte 7) [2, 0]) (.limit 7) [2, 0] [(2, 0)]
        (due (.limitDisable (byte 7) [2, 0]) busy) ∧
      Passes (.limitEnable (byte 7) [2, 1]) (.limit 7) [2, 1] [(2, 1)] (due (.limitEnable (byte 7) [2, 1]) busy) := by
  decide +kernel

theorem witness_LimitRequests : Due (.limitAck (byte 7)) (due (.limitAck (byte 7)) busy) ∧
    busy.limits[7].map (·.state) = some .latched ∧ Due (.limitRetire (byte 7)) (due (.limitRetire (byte 7)) busy) ∧
    Due (.limitAck (byte 4)) (due (.limitAck (byte 4)) thirdEvaluation) ∧
    Due (.limitAck 24) (due (.limitAck 24) busy) ∧ busy.limits[23] = none := by decide +kernel

theorem witness_PairChecks :
    checkPairs calm .hall 2 [] [1, 50] = .good [(1, 50)] ∧ checkPairs calm .hall 2 [] [1, 51] = .bad .badValue 0 ∧
      checkPairs calm .hall 4 [] [1, 50, 1, 50] = .bad .badField 1 ∧
      checkPairs calm .hall 3 [] [1, 50, 18] = .bad .badField 1 ∧
      checkPairs calm .hall 1 [] [3] = .bad .badValue 0 ∧
      checkPairs busy .hall 3 [] [4, 0, 100] = .bad .wrongState 0 := by decide +kernel

theorem witness_PairChecks_requests : asTaken (.pwmPeriodWrite 1 []) = .write 0 1 [] ∧
    Due (.pwmPeriodWrite 1 []) (due (.pwmPeriodWrite 1 []) calm) ∧ recordOf 0 1 = none ∧
    Due (.write 0 0 []) (due (.write 0 0 []) calm) := by decide +kernel

theorem witness_FieldsReadBack : (accessOf .hall 9).admits 0 = true ∧ (accessOf .limit 12).admits 15 = true ∧
    (accessOf .ram 5).admits 0 = true ∧ (accessOf .ram 5).admits 8000000 = true ∧
    (accessOf .step 8).admits 4294967295 = true ∧ (accessOf .gauge 4).admits (-8388607) = true := by decide

theorem witness_SettingsWrites :
    Passes (.write 0 0 [4, 1, 144]) .hall [4, 1, 144] [(4, 400)] (due (.write 0 0 [4, 1, 144]) calm) ∧
      Passes (.pwmPeriodWrite 0 [3, 78, 32]) .hall [3, 78, 32] [(3, 20000)]
        (due (.pwmPeriodWrite 0 [3, 78, 32]) calm) ∧
      Passes (.write 0 0 [5, 39, 16]) .hall [5, 39, 16] [(5, 10000)] (due (.write 0 0 [5, 39, 16]) stretched) ∧
      (After (exec (.write 0 0 [5, 39, 16]) (due (.write 0 0 [5, 39, 16]) stretched))
        fun t => t.round.limitWrites = [(4000, 10000), (3000, 2000)] ∧ stretchLimitAt 2999 t = 2000) ∧
      Passes (.attentionMaskWrite 0 [8, 7, 255]) .hall [8, 7, 255] [(8, 2047)]
        (due (.attentionMaskWrite 0 [8, 7, 255]) calm) ∧
      Passes (.write 1 (byte 2) calibration) (.ram 2) calibration
        [(5, 2000000), (6, 120), (7, -200000), (8, 900000), (9, 2000)]
        (due (.write 1 (byte 2) calibration) calm) ∧
      Passes (.planWrite 0 [4, 0, 10]) .plan [4, 0, 10] [(4, 10)] (due (.planWrite 0 [4, 0, 10]) calm) ∧
      Passes (.write 8 0 [9, 2]) .crackset [9, 2] [(9, 2)] (due (.write 8 0 [9, 2]) calm) := by decide +kernel

theorem witness_StepWrites :
    Passes (.stepWrite 3 (byte 16) [1, 3]) (.step 16) [1, 3] [(1, 3)]
        (due (.stepWrite 3 (byte 16) [1, 3]) calm) ∧
      Passes (.stepWrite 3 (byte 16) [1, 0]) (.step 16) [1, 0] [(1, 0)]
        (due (.stepWrite 3 (byte 16) [1, 0]) busy) ∧
      Passes (.write 3 (byte 63) [1, 3, 5, 0, 122, 18, 0, 6, 0, 0, 0, 1]) (.step 63)
        [1, 3, 5, 0, 122, 18, 0, 6, 0, 0, 0, 1] [(1, 3), (5, 8000000), (6, 1)]
        (due (.write 3 (byte 63) [1, 3, 5, 0, 122, 18, 0, 6, 0, 0, 0, 1]) calm) := by decide +kernel

theorem witness_GroupWrites :
    Passes (.stepWrite 2 (byte 1) [2, 0]) (.group 1) [2, 0] [(2, 0)] (due (.stepWrite 2 (byte 1) [2, 0]) busy) ∧
      Passes (.seatLoadWrite (byte 1) [6, 0, 0, 3, 232]) (.group 1) [6, 0, 0, 3, 232] [(6, 1000)]
        (due (.seatLoadWrite (byte 1) [6, 0, 0, 3, 232]) calm) ∧
      Passes (.zoneWrite (byte 1) [13, 0, 0, 0, 1]) (.group 1) [13, 0, 0, 0, 1] [(13, 1)]
        (due (.zoneWrite (byte 1) [13, 0, 0, 0, 1]) calm) ∧
      Passes (.zoneWrite (byte 1) [14, 0, 3, 208, 144]) (.group 1) [14, 0, 3, 208, 144] [(14, 250000)]
        (due (.zoneWrite (byte 1) [14, 0, 3, 208, 144]) calm) ∧
      Passes (.write 2 (byte 1) [7, 0, 0, 0, 1]) (.group 1) [7, 0, 0, 0, 1] [(7, 1)]
        (due (.write 2 (byte 1) [7, 0, 0, 0, 1]) calm) := by decide +kernel

/-- R126: a zone WRITE moves the ref group of CRACK 4 from group 0 to group 1, and with no crack limit nothing else. -/
theorem witness_GroupWrites_zone :
    let s := due (.zoneWrite (byte 1) [14, 0, 3, 208, 144]) twoCracks
    Passes (.zoneWrite (byte 1) [14, 0, 3, 208, 144]) (.group 1) [14, 0, 3, 208, 144] [(14, 250000)] s ∧
      (∀ g, NoCrackLimit s g) ∧ crackFour.refGroup = some 0 ∧
      (After (exec (.zoneWrite (byte 1) [14, 0, 3, 208, 144]) s)
        fun t => (t.cracks[4]).bind (·.refGroup) = some 1 ∧ t.marks = s.marks) :=
  ⟨by decide +kernel, fun g => (no_limit_of_empty (by decide +kernel) g 0).1, by decide +kernel⟩

/-! ## Witnesses: the request port -/

/-- The state in a transaction of its own, with a response held or none. -/
def receiving (held : Option Response) (s : State) : State :=
  { s with port := { phase := .receiving, selLow := true, held := held } }

theorem witness_SelFall : calm.port.selLow = false ∧ calm.port.phase = .idle ∧ calm.port.held = none ∧
    ({ calm with port := { phase := .answer, held := some ok } } : State).port.phase = .answer ∧
    (receiving none calm).port.phase = .receiving := by decide

/-- R166: the first bit clocked is the most significant, and the bits of an incomplete byte are discarded. -/
theorem test_spi_bytes :
    spiBytes [true, false, true, false, false, true, false, true, false, true] = [0xA5] ∧
      spiBytes (List.replicate 7 true) = [] ∧ spiBytes (clocked [0x02, 0x01, 0x2D]) = [0x02, 0x01, 0x2D] := by decide

/-- R166, R170: the EMPTY response 01 00 on SDO, bit by bit, driven from the fall of SEL. -/
theorem test_sdo_bits :
    After (exec .selFall calm) fun t =>
      (List.range 16).map (fun n => sdoBit n t) =
          (List.replicate 7 false ++ [true] ++ List.replicate 8 false).map some ∧
        sdoBit 0 calm = none := by decide +kernel

theorem witness_Overruns : busy.port.phase = .working ∧ busy.port.selLow = false ∧
    (State.powerOn .high .clear).port.phase = .starting ∧
    ({ busy with port := { busy.port with selLow := true, overrun := true } } : State).port.overrun = true := by
  decide +kernel

theorem witness_SelRise :
    let s := receiving (some ok) calm
    s.inReset = false ∧ s.port.selLow = true ∧ s.port.overrun = false ∧ s.port.phase = .receiving ∧
      ([] : List Byte).headD 0 = 0 ∧ 62 < (63 : Byte).toNat ∧ [0x02, 0x01].length < (2 : Byte).toNat + 1 ∧
      crc8 [0x02, 0x01] ≠ 0x2C ∧ crc8 [0x02, 0x01] = 0x2D ∧
      decodeRequest ⟨0x01, []⟩ = .command .identify ∧ decodeRequest ⟨0x00, []⟩ = .refused .unknown := by
  decide +kernel

theorem witness_RequestFrames : WellFormed .identify = true ∧ requestOf .identify = some ⟨0x01, []⟩ ∧
    After (exec (.selRise (clocked [0x02, 0x01, 0x2D, 0x00] ++ [true])) (receiving none calm))
      (fun t => t = { calm with port := { phase := .working, work := some ⟨0x01, []⟩ } }) := by decide +kernel

theorem witness_PortRequests : Due .identify busy ∧ Due (.read 10 23) (due (.read 10 23) busy) ∧
    Due (.read 11 0) (due (.read 11 0) busy) ∧ Due (.listChanged none) (due (.listChanged none) busy) ∧
    Due (.listChanged (some (3, 63))) (due (.listChanged (some (3, 63))) busy) ∧
    Due (.listChanged (some (0, 1))) (due (.listChanged (some (0, 1))) busy) ∧ recordOf 0 1 = none ∧
    recordOf 3 63 = some (.step 63) := by decide +kernel

theorem witness_Attn : attn (mark (.gauge 47) calm) = true ∧ attn calm = false ∧ calm.inReset = false := by
  decide +kernel

theorem witness_RefusedRequests : requestOf (.ramStart 2) ≠ none ∧ (Instr.ramStart 2) ≠ .restart ∧
    ¬Due (.ramStart 2) calm ∧ Due (.ramStart 2) (due (.ramStart 2) calm) ∧
    (After (exec (.ramStart 2) (due (.ramStart 2) calm))
        fun t => t.port.held = some (refuse .wrongState)) ∧ calm.scanEnds = none ∧
    ¬Due (.ramStart 2) unknownInWork ∧ unknownInWork.port.phase = .working ∧
    (After (exec (.ramStart 2) unknownInWork) fun t => t.port.held = some (refuse .unknown)) := by decide +kernel

/-- A SEL fall before the port has refused a request is an overrun (R173): READY is low all the while. -/
theorem test_refused_request_is_in_work : ready unknownInWork = false ∧
    (After (exec .selFall unknownInWork) fun t => t.port.overrun = true ∧ t.hall.overrunCount = 1) := by
  decide +kernel

theorem witness_Restart : Due .restart (due .restart busy) ∧ SeverityLaw (due .restart busy) := by
  refine ⟨by decide +kernel, ?_⟩
  unfold SeverityLaw
  decide +kernel

theorem witness_RestartComplete :
    let s : State := { busy with port := { phase := .working, restartTaken := true } }
    s.inReset = false ∧ s.port.phase = .working ∧ s.port.restartTaken = true ∧ s.round.restarting = false ∧
      ¬(calm.port.phase = .working) ∧
      (After (exec .restartComplete { s with round := { s.round with restarting := true } })
        fun t => t.plan.roundState = .idle ∧ t.clk = 400 ∧ t.round.busFree = 800) := by decide +kernel

theorem witness_RestartedLevels :
    let s : State := { stretched with round := { stretched.round with restarting := true } }
    let u : State := withPlan { roundState := .latch } { restarting := true } calm
    s.inReset = false ∧ s.round.restarting = true ∧ s.plan.roundState = .read ∧ s.round.todo = 0 :: [1] ∧ 0 < 14 ∧ 13 < 14 ∧
      endedLevels 14 s = busLevels stretched ∧
      u.inReset = false ∧ u.round.restarting = true ∧ u.plan.roundState = .latch := by decide +kernel

/-! ## Witnesses: the laws hold of a state in which every block is busy -/

/-- The busy state with a command in front of its queue. -/
def busyTick : State := { busy with pending := [.controlTick] }

theorem witness_step : ∃ t, step busyTick = .next t := ⟨_, rfl⟩

theorem witness_ValveLaw : ValveLaw busyTick ∧ CompareLaw busyTick := by
  unfold ValveLaw CompareLaw Ram.Resting
  decide +kernel

theorem witness_BoundsLaw : BoundsLaw busyTick := by
  unfold BoundsLaw
  decide +kernel

theorem witness_TrippedLaw : CauseLaw busyTick ∧ TrippedLaw busyTick ∧ LoadedLaw busyTick := by
  unfold CauseLaw TrippedLaw LoadedLaw
  decide +kernel

theorem witness_ProgramLaw : ProgramLaw busyTick := by
  unfold ProgramLaw
  decide +kernel

theorem witness_LimitLaw : LimitLaw busyTick := by
  have h : ∀ i : Fin 24, ∀ l ∈ busyTick.limits[i],
      (l.enabled = false ↔ l.state = .disabled) ∧ (l.state = .pending → l.counter < l.persistence) ∧
        (l.state ≠ .pending → l.counter = 0) ∧ l.related = true := by decide +kernel
  exact fun i l k => h i l k

theorem witness_SeverityLaw : SeverityLaw busyTick ∧ EngagedLaw busyTick := by
  unfold SeverityLaw EngagedLaw
  decide +kernel

theorem witness_GaugeLaw : GaugeLaw busyTick := by
  have h : ∀ k : Fin 48,
      (busyTick.gauges[k].enabled = false ↔ busyTick.gauges[k].state = .disabled) ∧
        (busyTick.gauges[k].enabled = false →
          busyTick.gauges[k].count = none ∧ busyTick.gauges[k].strain = none ∧
            busyTick.gauges[k].zeroPending = false) ∧
        (busyTick.gauges[k].strain.isSome = true → busyTick.gauges[k].count.isSome = true) ∧
        (busyTick.gauges[k].state = .ok → busyTick.gauges[k].strain.isSome = true) ∧
        ∀ e ∈ busyTick.gauges[k].strain, e.peakMin ≤ e.now ∧ e.now ≤ e.peakMax := by decide +kernel
  exact h

theorem witness_PodLaw : PodLaw busyTick := by
  unfold PodLaw
  decide +kernel

theorem witness_HitLaw : HitLaw busyTick := by
  have h : ∀ p : Fin 16,
      busyTick.apods[p].accepted = busyTick.apods[p].paired + busyTick.apods[p].unpaired +
          (if busyTick.apods[p].slot.isSome then 1 else 0) ∧
        busyTick.apods[p].received = busyTick.apods[p].accepted + busyTick.apods[p].belowAmp := by decide +kernel
  exact fun p _ _ _ _ _ => h p

theorem witness_CrackLaw : CrackLaw busyTick ∧ RefLaw busyTick := by
  have h : ∀ c : Fin 32, ∀ y ∈ busyTick.cracks[c],
      (1 ≤ y.events ∧ y.xLo ≤ y.xMm ∧ y.xMm ≤ y.xHi ∧ (y.confirmCycle.isSome = true ↔ y.state ≠ .suspect)) ∧
        y.refGroup = zoneOf y.xMm busyTick := by decide +kernel
  exact ⟨fun c y k => (h c y k).1, fun c y k => (h c y k).2⟩

theorem witness_RoundLaw : RoundLaw busyTick := by
  unfold RoundLaw
  decide +kernel

theorem witness_PortLaw : PortLaw busyTick := by
  unfold PortLaw
  decide +kernel

end Sys2Proof.Tests
end

section
/-! The protection path walked once for every relation between states: what its writings of single records keep, the
whole of it keeps. -/

namespace Sys2Proof.Machine

/-! ## Reading a bank after one record is replaced -/

theorem getElem_set_fin {α : Type} {n : Nat} (v : Vector α n) (i j : Fin n) (x : α) :
    (v.set i x)[j] = if i = j then x else v[j] := by
  simp [Vector.getElem_set, Fin.ext_iff]

/-- A mark of another kind leaves the marks of the rams. -/
theorem markIf_marks_ram {i : RecordId} (h : ∀ r, i ≠ .ram r) (b : Bool) (s : State) :
    (markIf b i s).marks.ram = s.marks.ram := by
  unfold markIf
  split
  · cases i with
    | ram r => exact absurd rfl (h r)
    | _ => rfl
  · rfl

/-! ## The walk -/

/-- A ram that a cause has tripped (R38). -/
def Ram.trip (cause : TripCause) (mid : Nat) (x : Ram) : Ram :=
  { x.atRest mid with state := .tripped, tripCause := cause }

/-- A relation that holds across every writing of a group and every trip of an ACTIVE ram by one cause. -/
structure TripPath (cause : TripCause) (R : State → State → Prop) : Prop where
  refl : ∀ s, R s s
  trans : ∀ {a b c}, R a b → R b c → R a c
  putGroup : ∀ g x s, R s (putGroup g x s)
  trip : ∀ (r : Fin 8) s, s.rams[r].state = .active →
    R s (mark (.ram r) (setRam r (s.rams[r].trip cause (midCompare s)) s))

/-- A relation that holds across every writing of the limit path besides. -/
structure LimitPath (R : State → State → Prop) : Prop extends TripPath .limit R where
  putLimit : ∀ i x s, R s (putLimit i x s)

/-- A relation that holds across every writing of a crack slot besides. -/
structure CrackPath (R : State → State → Prop) : Prop extends LimitPath R where
  putCrack : ∀ c x s, R s (putCrack c x s)

namespace TripPath

variable {cause : TripCause} {R : State → State → Prop} (h : TripPath cause R)
include h

theorem forAll {n : Nat} {f : Fin n → State → State} (hf : ∀ i t, R t (f i t)) (s : State) : R s (forAll f s) :=
  forAll_relation h.refl (fun _ _ _ => h.trans) hf s

theorem unloadGroup (g : Fin 4) (s : State) : R s (unloadGroup g s) := by
  unfold Machine.unloadGroup
  split <;> exact h.putGroup _ _ _

theorem groupTrip (g : Fin 4) (s : State) : R s (groupTrip g s) := by
  unfold Machine.groupTrip
  split
  any_goals exact h.unloadGroup g s
  · split
    · exact h.refl s
    · exact h.putGroup _ _ _
  · exact h.refl s

/-- A ram trip (R38). -/
theorem tripRam (r : Fin 8) (s : State) : R s (tripRam cause r s) := by
  unfold Machine.tripRam
  simp only
  split
  next hact => exact h.trans (h.trip r s hact) (h.groupTrip _ _)
  · exact h.refl s

/-- A trip of every ram (R42). -/
theorem tripAll (s : State) : R s (tripAll cause s) := h.forAll (fun r t => h.tripRam r t) s

/-- A trip of every ram of a group (R43). -/
theorem tripGroup (g : Fin 4) (s : State) : R s (tripGroup cause g s) := by
  refine h.forAll (fun r t => ?_) s
  split
  · exact h.tripRam r t
  · exact h.refl t

end TripPath

namespace TripPath

variable {R : State → State → Prop} (h : TripPath .limit R)
include h

/-- The action of a limit on one target (R21). -/
theorem applyAction (a : Action) (g : Fin 4) (s : State) : R s (applyAction a g s) := by
  unfold Machine.applyAction
  simp only
  split
  · exact h.refl s
  · exact h.refl s
  · split
    · split <;> exact h.putGroup _ _ _
    · exact h.putGroup _ _ _
    all_goals exact h.refl s
  · split
    any_goals exact h.putGroup _ _ _
    all_goals exact h.refl s
  · split
    any_goals exact h.unloadGroup g s
    all_goals exact h.refl s
  · exact h.tripGroup _ _

/-- The engage notices of a limit (R159). -/
theorem notifyEngage (l : Limit) (s : State) : R s (notifyEngage l s) := by
  refine h.forAll (fun g t => ?_) s
  split
  · exact h.trans (h.putGroup _ _ _) (h.applyAction _ _ _)
  · exact h.refl t

/-- The release notices of a limit (R159). -/
theorem notifyRelease (l : Limit) (s : State) : R s (notifyRelease l s) := by
  refine h.forAll (fun g t => ?_) s
  split
  · exact h.putGroup _ _ _
  · exact h.refl t

end TripPath

namespace LimitPath

variable {R : State → State → Prop} (h : LimitPath R)
include h

/-- One evaluation of a limit slot (R153 to R159). -/
theorem evalLimit (i : Fin 24) (s : State) : R s (evalLimit i s) := by
  unfold Machine.evalLimit
  split
  · exact h.refl s
  · split
    · exact h.refl s
    · simp only
      split
      · exact h.trans (h.putLimit _ _ s) (h.notifyEngage _ _)
      · split
        · exact h.trans (h.putLimit _ _ s) (h.notifyRelease _ _)
        · exact h.putLimit _ _ s

/-- The evaluations of one event (R160). -/
theorem evalWhere (p : Limit → Bool) (s : State) : R s (evalWhere p s) := by
  refine h.forAll (fun i t => ?_) s
  split
  · exact h.evalLimit i t
  · exact h.refl t

/-- The zone change notices of one event (R142). -/
theorem noticeZones (c : Fin 4 → Bool) (s : State) : R s (noticeZones c s) := by
  refine h.forAll (fun g t => ?_) s
  split
  · exact h.evalWhere _ t
  · exact h.refl t

end LimitPath

/-- The records of a group as a window close judges them, before any notice (R132 to R134). -/
def judgeWindow (g : Fin 4) (s : State) : State :=
  forAll (fun c t =>
    match t.cracks[c] with
    | some y => if y.refGroup = some g then putCrack c (y.windowClose t.crackset) t else t
    | none => t) s

theorem closeWindow_eq (g : Fin 4) (s : State) :
    closeWindow g s =
      if cracksChanged s (judgeWindow g s) then noticeZones (fun h => h == g) (judgeWindow g s)
      else judgeWindow g s := rfl

/-- The PLAN record as a completion writes its summary, before the limits are evaluated (R71). -/
def writeSummary (aborted : Bool) (s : State) : State :=
  markIf aborted .plan (setPlan
    { s.plan with
      roundNumber := satInc max32 s.plan.roundNumber
      trigger := s.round.kind
      latchTime := s.round.latchTime
      trigCommand := s.round.trigCommand
      trigLifeCycles := s.round.trigLifeCycles
      latchAnswered := s.round.latchAnswered
      aborted := aborted
      podsRead := s.round.podsRead
      podsMissed := s.round.podsMissed } s)

/-- The round in IDLE after its completion, with the rest of mode CYCLIC (R71, R74). -/
def endRound (s : State) : State :=
  if s.plan.mode = .cyclic then
    setRound { s.round with restFlag := true } (setPlan { s.plan with roundState := .idle } s)
  else setPlan { s.plan with roundState := .idle } s

theorem completeRound_eq (aborted : Bool) (s : State) :
    completeRound aborted s =
      endRound (evalWhere (Limit.isGaugeOfPods s.round.pods) (writeSummary aborted s)) := by
  unfold completeRound writeSummary endRound
  simp only
  generalize evalWhere _ _ = t
  rfl

namespace CrackPath

variable {R : State → State → Prop} (h : CrackPath R)
include h

theorem judgeWindow (g : Fin 4) (s : State) : R s (judgeWindow g s) := by
  refine h.forAll (fun c t => ?_) s
  split
  · split
    · exact h.putCrack _ _ _
    · exact h.refl t
  · exact h.refl t

/-- An activity window closes (R132 to R135). -/
theorem closeWindow (g : Fin 4) (s : State) : R s (closeWindow g s) := by
  rw [closeWindow_eq]
  split
  · exact h.trans (h.judgeWindow g s) (h.noticeZones _ _)
  · exact h.judgeWindow g s

theorem wrapAtCracks (g : Fin 4) (b : Bool) (s : State) : R s (wrapAtCracks g b s) := by
  unfold Machine.wrapAtCracks
  split
  · exact h.closeWindow g s
  · exact h.refl s

end CrackPath

/-! ## Triggers and the group advance -/

/-- The clock stands, or moves from IDLE to the START of a latch, one bit time after the latest STOP (R60, R73). -/
def LatchClock (s t : State) : Prop :=
  (t.clk = s.clk ∧ t.round.busFree = s.round.busFree ∧
      (s.plan.roundState = .idle ∨ t.plan.roundState = s.plan.roundState)) ∨
    (s.plan.roundState = .idle ∧ t.plan.roundState = .latch ∧ t.clk = max s.clk s.round.busFree)

theorem LatchClock.rfl (s : State) : LatchClock s s := .inl ⟨Eq.refl _, Eq.refl _, .inr (Eq.refl _)⟩

theorem LatchClock.trans {a b c : State} (h : LatchClock a b) (k : LatchClock b c) : LatchClock a c := by
  unfold LatchClock at *
  rcases h with ⟨h1, h2, h3⟩ | ⟨h1, h2, h3⟩ <;> rcases k with ⟨k1, k2, k3⟩ | ⟨k1, k2, k3⟩ <;> grind

/-- A trigger differs from s in the clock, the round plan and the PLAN mark alone (R73). -/
structure Triggers (s t : State) : Prop where
  frame : t = { s with clk := t.clk, plan := t.plan, round := t.round, marks := { s.marks with plan := t.marks.plan } }
  clock : LatchClock s t

theorem Triggers.rfl (s : State) : Triggers s s := ⟨Eq.refl s, .rfl s⟩

theorem Triggers.trans {a b c : State} (h : Triggers a b) (k : Triggers b c) : Triggers a c := by
  obtain ⟨hf, hc⟩ := h
  obtain ⟨kf, kc⟩ := k
  exact ⟨by rw [kf, hf], hc.trans kc⟩

theorem markIf_plan_eq (b : Bool) (s : State) :
    markIf b .plan s = { s with marks := { s.marks with plan := (markIf b .plan s).marks.plan } } := by
  unfold markIf
  split <;> rfl

theorem triggers_setPlan {x : Plan} {s : State} (h : x.roundState = s.plan.roundState) (b : Bool) :
    Triggers s (markIf b .plan (setPlan x s)) := by
  rw [markIf_plan_eq]
  exact ⟨rfl, .inl ⟨rfl, rfl, .inr h⟩⟩

theorem triggers_roundGoesOn {s : State} (h : s.plan.roundState = .idle) : Triggers s (roundGoesOn s) := by
  unfold roundGoesOn
  split
  · exact ⟨rfl, .inl ⟨rfl, rfl, .inl h⟩⟩
  · rw [latchStart_eq]
    exact ⟨rfl, .inr ⟨h, rfl, rfl⟩⟩

theorem triggers_roundStart {s : State} (kind : TriggerKind) (delayed : Bool) (h : s.plan.roundState = .idle) :
    Triggers s (roundStart kind delayed s) := by
  have hr (x : Round) (hx : x.busFree = s.round.busFree) : Triggers s (setRound x s) :=
    ⟨rfl, .inl ⟨rfl, hx, .inl h⟩⟩
  unfold roundStart
  simp only
  split
  · exact ⟨rfl, .inl ⟨rfl, rfl, .inl h⟩⟩
  · refine Triggers.trans ?_ (triggers_roundGoesOn (by exact h))
    exact hr _ rfl

theorem triggers_trigger (kind : TriggerKind) (s : State) : Triggers s (trigger kind s) := by
  unfold trigger
  split
  · exact .rfl s
  · split
    · exact .rfl s
    · split
      · exact triggers_setPlan (by rfl) _
      next hi =>
        have hidle : s.plan.roundState = .idle := not_not.mp hi
        split
        · refine Triggers.trans (b := setArmed false s) (triggers_setPlan (by rfl) _) (triggers_roundStart _ _ ?_)
          unfold setArmed
          simpa using hidle
        · exact triggers_roundStart _ _ hidle

theorem triggers_peakTrigger (g : Fin 4) (s : State) : Triggers s (peakTrigger g s) := by
  unfold peakTrigger
  split
  · exact triggers_trigger _ _
  · exact .rfl s

theorem triggers_troughTrigger (g : Fin 4) (s : State) : Triggers s (troughTrigger g s) := by
  unfold troughTrigger
  split
  · exact triggers_trigger _ _
  · exact .rfl s

/-- A group advance writes its group, and hands its cycle event on (R5, R12). -/
theorem CrackPath.advanceGroup {R : State → State → Prop} (h : CrackPath R) (ht : ∀ {s t}, Triggers s t → R s t)
    (g : Fin 4) (s : State) : R s (advanceGroup g s) := by
  unfold Machine.advanceGroup
  simp only
  split
  · exact h.putGroup _ _ _
  · exact h.trans (h.putGroup _ _ _) (ht (triggers_peakTrigger _ _))
  · exact h.trans (h.putGroup _ _ _) (ht (triggers_troughTrigger _ _))
  · exact h.trans (h.putGroup _ _ _) (h.wrapAtCracks _ _ _)

/-! ## Trips -/

/-- From s to t one cause has tripped some ACTIVE rams, which carry their marks; every other ram stands as it did. -/
def TripsBy (cause : TripCause) (s t : State) : Prop :=
  t.hall.pwmPeriod = s.hall.pwmPeriod ∧
    ∀ r : Fin 8,
      (t.rams[r] = s.rams[r] ∧ t.marks.ram[r] = s.marks.ram[r]) ∨
        (s.rams[r].state = .active ∧ t.rams[r] = s.rams[r].trip cause (midCompare s) ∧ t.marks.ram[r] = true)

theorem TripsBy.of_eq {cause : TripCause} {s t : State} (hp : t.hall.pwmPeriod = s.hall.pwmPeriod)
    (hr : t.rams = s.rams) (hm : t.marks.ram = s.marks.ram) : TripsBy cause s t :=
  ⟨hp, fun r => .inl ⟨by rw [hr], by rw [hm]⟩⟩

theorem TripsBy.rfl {cause : TripCause} (s : State) : TripsBy cause s s := .of_eq (Eq.refl _) (Eq.refl _) (Eq.refl _)

theorem TripsBy.trans {cause : TripCause} {a b c : State} (h : TripsBy cause a b) (k : TripsBy cause b c) :
    TripsBy cause a c := by
  obtain ⟨hp, hr⟩ := h
  obtain ⟨kp, kr⟩ := k
  have hmid : midCompare b = midCompare a := by unfold midCompare; rw [hp]
  refine ⟨kp.trans hp, fun r => ?_⟩
  rcases hr r with ⟨hx, hm⟩ | ⟨hact, hx, hm⟩ <;> rcases kr r with ⟨kx, km⟩ | ⟨kact, kx, km⟩
  · exact .inl ⟨kx.trans hx, km.trans hm⟩
  · exact .inr ⟨hx ▸ kact, by rw [kx, hx, hmid], km⟩
  · exact .inr ⟨hact, kx.trans hx, km.trans hm⟩
  · rw [hx] at kact
    cases kact

theorem tripsBy_tripPath (cause : TripCause) : TripPath cause (TripsBy cause) where
  refl := .rfl
  trans := .trans
  putGroup _ _ _ := .of_eq (by simp) (by simp) (markIf_marks_ram (by simp) _ _)
  trip r s hact := by
    refine ⟨by simp, fun q => ?_⟩
    rw [mark_rams, setRam_rams, getElem_set_fin, mark_marks, setRam_marks, Marks.put, getElem_set_fin]
    by_cases hq : r = q
    · subst hq
      exact .inr ⟨hact, by simp⟩
    · exact .inl (by simp [hq])

theorem tripsBy_crackPath : CrackPath (TripsBy .limit) where
  toTripPath := tripsBy_tripPath .limit
  putLimit _ _ _ := .of_eq (by simp [putLimit]) (by simp [putLimit]) (markIf_marks_ram (by simp) _ _)
  putCrack _ _ _ := .of_eq (by simp [putCrack]) (by simp [putCrack]) (markIf_marks_ram (by simp) _ _)

/-- The group advances trip by a limit only, where a window close evaluates one (R132, R161). -/
theorem tripsBy_advanceGroup (g : Fin 4) (s : State) : TripsBy .limit s (advanceGroup g s) :=
  tripsBy_crackPath.advanceGroup
    (fun h => .of_eq (by rw [h.frame]) (by rw [h.frame]) (by rw [h.frame])) g s

end Sys2Proof.Machine
end

section
/-! What one step can do to the rams, said once: the moves of a RAM record, and that every command makes only such moves. -/

namespace Sys2Proof.Machine

/-- The mid compare of a pulse period (R31). -/
def midOf (pwm : Nat) : Nat := (roundDiv pwm 2).toNat

theorem midCompare_eq (s : State) : midCompare s = midOf s.hall.pwmPeriod := rfl

/-- One move of a RAM record while the pulse period is pwm: a trip, the stages of a sample set, a pulse period, the requests
of the ram channels, an accepted WRITE of the record and a RESTART. -/
inductive RamMove (pwm : Nat) : Ram → Ram → Prop where
  | trip (x : Ram) (cause : TripCause) : x.state = .active → RamMove pwm x (x.trip cause (midOf pwm))
  | convert (x : Ram) (cLoad cStroke cCoil : Int) : RamMove pwm x (x.convert cLoad cStroke cCoil)
  | countCoil (x : Ram) : x.state = .active → RamMove pwm x x.countCoil
  | chain (x : Ram) (gN : Int) (derate : Nat) : x.state = .active → RamMove pwm x (x.chain gN derate pwm).countSat
  | pulse (x : Ram) : RamMove pwm x { x with activeCompare := x.shadowCompare }
  | start (x : Ram) : x.fsForce ≠ 0 → RamMove pwm x (x.start (midOf pwm))
  | stop (x : Ram) (cause : TripCause) :
      RamMove pwm x { x.atRest (midOf pwm) with state := .off, tripCause := cause }
  | clear (x : Ram) : x.state = .tripped → RamMove pwm x { x with state := .off, tripCause := .none }
  | write (x : Ram) (pairs : List (Nat × Int)) : (x.state = .active → ∀ p ∈ pairs, p.1 ≠ 5) →
      (putAll Ram.put pairs x).related = true → RamMove pwm x (putAll Ram.put pairs x)

/-- From s to t the pulse period stands and every ram makes moves of its own. -/
def RamsMove (s t : State) : Prop :=
  t.hall.pwmPeriod = s.hall.pwmPeriod ∧
    ∀ r : Fin 8, Relation.ReflTransGen (RamMove s.hall.pwmPeriod) s.rams[r] t.rams[r]

namespace RamsMove

theorem of_eq {s t : State} (hp : t.hall.pwmPeriod = s.hall.pwmPeriod) (hr : t.rams = s.rams) : RamsMove s t :=
  ⟨hp, fun r => by rw [hr]⟩

theorem refl (s : State) : RamsMove s s := of_eq rfl rfl

theorem trans {a b c : State} (h : RamsMove a b) (k : RamsMove b c) : RamsMove a c :=
  ⟨k.1.trans h.1, fun r => (h.2 r).trans (h.1 ▸ k.2 r)⟩

/-- One ram makes one move. -/
theorem of_setRam {r : Fin 8} {x : Ram} {s : State} (h : RamMove s.hall.pwmPeriod s.rams[r] x) :
    RamsMove s (setRam r x s) := by
  refine ⟨rfl, fun q => ?_⟩
  rw [setRam_rams, getElem_set_fin]
  split
  next hq => exact hq ▸ .single h
  · exact .refl

theorem setRound (x : Round) (s : State) : RamsMove s (setRound x s) := of_eq rfl rfl

theorem setPlan (x : Plan) (s : State) : RamsMove s (setPlan x s) := of_eq rfl rfl

theorem mark (i : RecordId) (s : State) : RamsMove s (mark i s) := of_eq rfl rfl

theorem markIf (b : Bool) (i : RecordId) (s : State) : RamsMove s (markIf b i s) := of_eq (by simp) (by simp)

theorem tripPath (cause : TripCause) : TripPath cause RamsMove where
  refl := refl
  trans := trans
  putGroup _ _ _ := of_eq (by simp) (by simp)
  trip _ _ hact := (of_setRam (.trip _ _ hact)).trans (mark _ _)

theorem crackPath : CrackPath RamsMove where
  toTripPath := tripPath .limit
  putLimit _ _ _ := of_eq (by simp [putLimit]) (by simp [putLimit])
  putCrack _ _ _ := of_eq (by simp [putCrack]) (by simp [putCrack])

theorem forAll {n : Nat} {f : Fin n → State → State} (h : ∀ i t, RamsMove t (f i t)) (s : State) :
    RamsMove s (forAll f s) :=
  (tripPath .none).forAll h s

theorem of_plans {s t : State} (h : Plans s t) : RamsMove s t := by
  unfold Plans at h
  exact of_eq (by rw [h]) (by rw [h])

/-! ## The sample set -/

/-- A ram channel takes its counts: it converts, and while ACTIVE counts, drives and trips. -/
theorem takeCounts (r : Fin 8) (cLoad cStroke cCoil : Int) (s : State) :
    RamsMove s (takeCounts r cLoad cStroke cCoil s) := by
  have hc : RamsMove s (setRam r (s.rams[r].convert cLoad cStroke cCoil) s) := of_setRam (.convert _ _ _ _)
  unfold Machine.takeCounts
  simp only
  split
  · exact hc
  next hact =>
    split
    · exact hc.trans ((tripPath _).tripRam _ _)
    · split
      · exact hc.trans ((tripPath _).tripRam _ _)
      · have hk : RamsMove s (setRam r (s.rams[r].convert cLoad cStroke cCoil).countCoil
            (setRam r (s.rams[r].convert cLoad cStroke cCoil) s)) :=
          hc.trans (of_setRam (by simpa using .countCoil _ (by simpa using hact)))
        split
        · exact hk.trans ((tripPath _).tripRam _ _)
        · generalize (setRam r (s.rams[r].convert cLoad cStroke cCoil).countCoil
            (setRam r (s.rams[r].convert cLoad cStroke cCoil) s)).groups[
              (s.rams[r].convert cLoad cStroke cCoil).countCoil.group] = g
          have hz := hk.trans (of_setRam (r := r) (by
            simpa using RamMove.chain _ g.newtons g.derate (by simpa [Ram.countCoil] using hact)))
          split
          · exact hz.trans ((tripPath _).tripRam _ _)
          · exact hz

theorem advanceGroup (g : Fin 4) (s : State) : RamsMove s (advanceGroup g s) :=
  crackPath.advanceGroup (fun h => of_eq (by rw [h.frame]) (by rw [h.frame])) g s

theorem takeAux (counts : Vector (BitVec 16) 28) (s : State) : RamsMove s (takeAux counts s) := of_eq rfl rfl

theorem takeRam (counts : Vector (BitVec 16) 28) (r : Fin 8) (s : State) : RamsMove s (takeRam counts r s) :=
  takeCounts r _ _ _ s

theorem sampleSet (counts : Vector (BitVec 16) 28) (s : State) : RamsMove s (sampleSet counts s) := by
  unfold Machine.sampleSet
  split
  · exact refl s
  next e _ =>
    have h : RamsMove s { passTo e s with scanEnds := none } := of_eq rfl rfl
    exact (((h.trans (forAll (takeRam counts) _)).trans (takeAux counts _)).trans (forAll advanceGroup _)).trans
      (crackPath.evalWhere _ _)

/-! ## The gauge records, the round plan and the crack table -/

theorem putGauge (k : Fin 48) (x : Gauge) (s : State) : RamsMove s (putGauge k x s) := by
  have h : RamsMove s { s with gauges := s.gauges.set k x } := of_eq rfl rfl
  unfold Machine.putGauge
  simp only
  split
  · exact h
  · exact (h.trans (mark _ _)).trans (crackPath.evalWhere _ _)

theorem handRead (p : Fin 12) (o : Fin 4 → Bool) (c : Fin 4 → Int) (s : State) :
    RamsMove s (handRead p o c s) := by
  unfold Machine.handRead
  simp only
  refine trans (forAll (fun i t => ?_) s) (of_eq rfl rfl)
  split
  · exact putGauge _ _ _
  · exact refl t

theorem handMiss (p : Fin 12) (w : MissReason) (s : State) : RamsMove s (handMiss p w s) := by
  have h : RamsMove s { s with gpods := s.gpods.set p (s.gpods[p].missed w) } := of_eq rfl rfl
  unfold Machine.handMiss
  simp only
  split
  · refine (h.trans (markIf _ _ _)).trans (forAll (fun i t => ?_) _)
    split
    · exact putGauge _ _ _
    · exact refl t
  · exact h.trans (markIf _ _ _)

theorem roundMiss (p : Fin 12) (w : MissReason) (s : State) : RamsMove s (roundMiss p w s) :=
  (handMiss p w s).trans (setRound _ _)

theorem missAll (ps : List (Fin 12)) (s : State) : RamsMove s (missAll ps s) := by
  unfold Machine.missAll
  induction ps generalizing s with
  | nil => exact refl s
  | cons p ps ih => exact (roundMiss p .fault s).trans (ih _)

theorem endRound (s : State) : RamsMove s (endRound s) := by
  unfold Machine.endRound
  split
  · exact (setPlan _ _).trans (setRound _ _)
  · exact setPlan _ _

theorem completeRound (b : Bool) (s : State) : RamsMove s (completeRound b s) := by
  rw [completeRound_eq]
  exact (((setPlan _ _).trans (markIf _ _ _)).trans (crackPath.evalWhere _ _)).trans (endRound _)

theorem nextPod (s : State) : RamsMove s (nextPod s) := by
  unfold Machine.nextPod
  simp only
  split
  · exact (setRound _ _).trans (completeRound _ _)
  · exact ((setRound _ _).trans (setPlan _ _)).trans (setRound _ _)

theorem latchStart (s : State) : RamsMove s (latchStart s) := by
  rw [latchStart_eq]
  exact of_eq rfl rfl

theorem endRestartedRound (s : State) : RamsMove s (endRestartedRound s) := (setPlan _ _).trans (setRound _ _)

theorem enterWait (s : State) : RamsMove s (enterWait s) := (setPlan _ _).trans (setRound _ _)

theorem setBusState (b : BusState) (s : State) : RamsMove s (setBusState b s) := (setPlan _ _).trans (markIf _ _ _)

theorem clearSucceeded (s : State) : RamsMove s (clearSucceeded s) := by
  have h : RamsMove s (stopSent (Machine.setBusState .ok s)) := (setBusState _ _).trans (setRound _ _)
  unfold Machine.clearSucceeded
  simp only
  split
  · exact h.trans (endRestartedRound _)
  · split
    · exact h.trans (latchStart _)
    · split
      · exact h.trans (completeRound _ _)
      · exact h.trans (enterWait _)
    · exact h.trans (nextPod _)

theorem clearFailed (s : State) : RamsMove s (clearFailed s) := by
  have h := setBusState .fault s
  unfold Machine.clearFailed
  simp only
  split
  · exact h.trans (endRestartedRound _)
  · split
    · exact ((h.trans (setRound _ _)).trans (missAll _ _)).trans (completeRound _ _)
    · exact (h.trans (missAll _ _)).trans (completeRound _ _)
    · exact (h.trans (missAll _ _)).trans (completeRound _ _)

theorem podJudged (reply : PodReply) (s : State) : RamsMove s (podJudged reply s) := by
  unfold Machine.podJudged
  split
  · exact refl s
  · split
    · exact (roundMiss _ _ _).trans (nextPod _)
    · simp only
      split
      · exact (roundMiss _ _ _).trans (nextPod _)
      · exact ((handRead _ _ _ s).trans (setRound _ _)).trans (nextPod _)

theorem locatedEvent (x : Int) (a c : Nat) (s : State) : RamsMove s (locatedEvent x a c s) := by
  have hc : RamsMove s (createCrack x a c s) := by
    unfold createCrack
    split
    · exact (crackPath.putCrack _ _ s).trans (crackPath.noticeZones _ _)
    · exact of_eq (by simp) (by simp)
  unfold Machine.locatedEvent
  split
  · split
    · split
      · exact (crackPath.putCrack _ _ s).trans (crackPath.noticeZones _ _)
      · exact refl s
    · exact hc
  · exact hc

theorem mergeCracks (lo hi : Fin 32) (x y : Crack) (s : State) : RamsMove s (mergeCracks lo hi x y s) := by
  unfold Machine.mergeCracks noticeRefs
  exact ((((crackPath.putCrack _ _ _).trans (crackPath.putCrack _ _ _)).trans (mark _ _)).trans (mark _ _)).trans
    (crackPath.noticeZones _ _)

theorem recomputeRefs (s : State) : RamsMove s (recomputeRefs s) := by
  have h (v : Vector (Option Crack) 32) : RamsMove s { s with cracks := v } := of_eq rfl rfl
  exact (h _).trans (crackPath.noticeZones _ _)


/-! ## The acoustic line and the locator -/

theorem setLine (x : Line) (s : State) : RamsMove s (setLine x s) := of_eq rfl rfl

theorem setAPod (p : Fin 16) (x : APod) (s : State) : RamsMove s (setAPod p x s) := of_eq rfl rfl

theorem putAPod (p : Fin 16) (x : APod) (s : State) : RamsMove s (putAPod p x s) := of_eq (by simp) (by simp)

theorem expireSlot (p : Fin 16) (s : State) : RamsMove s (expireSlot p s) := by
  unfold Machine.expireSlot
  split
  · split
    · exact setAPod _ _ _
    · exact refl s
  · exact refl s

theorem clearSlot (p : Fin 16) (s : State) : RamsMove s (clearSlot p s) := by
  unfold Machine.clearSlot
  split
  · exact setAPod _ _ _
  · exact refl s

theorem pairHits (p q : Fin 16) (t : Word) (amp : Nat) (h : Hit) (s : State) :
    RamsMove s (pairHits p q t amp h s) := by
  unfold Machine.pairHits
  simp only
  exact ((setAPod _ _ _).trans (setAPod _ _ _)).trans (locatedEvent _ _ _ _)

theorem holdHit (p : Fin 16) (t : Word) (amp : Nat) (s : State) : RamsMove s (holdHit p t amp s) :=
  (clearSlot p s).trans (setAPod _ _ _)

/-- The neighbour of an arriving hit's pod, where it has one, is examined for its age (R115). -/
theorem expireNeighbour (q : Option (Fin 16)) (s : State) :
    RamsMove s ((q.map fun q => Machine.expireSlot q s).getD s) := by
  cases q with
  | none => exact refl s
  | some q => exact expireSlot q s

theorem hitArrival (p : Fin 16) (h : Hit) (s : State) : RamsMove s (hitArrival p h s) := by
  unfold Machine.hitArrival
  simp only
  split
  · exact setAPod _ _ _
  · split
    · exact setAPod _ _ _
    · split
      · exact (((setAPod _ _ _).trans (expireNeighbour _ _)).trans (expireNeighbour _ _)).trans (holdHit _ _ _ _)
      · split
        · exact (((setAPod _ _ _).trans (expireNeighbour _ _)).trans (expireNeighbour _ _)).trans
            (pairHits _ _ _ _ _ _)
        · exact (((setAPod _ _ _).trans (expireNeighbour _ _)).trans (expireNeighbour _ _)).trans (holdHit _ _ _ _)

theorem frameEndNotice (s : State) : RamsMove s (frameEndNotice s) := forAll expireSlot s

theorem frameEnd (began : Nat) (s : State) : RamsMove s (frameEnd began s) := by
  unfold Machine.frameEnd
  exact (setLine _ _).trans (frameEndNotice _)

theorem openPollSlot (d : Bool) (s : State) : RamsMove s (openPollSlot d s) := by
  unfold Machine.openPollSlot
  simp only
  split
  · split
    · exact (setLine _ _).trans (setLine _ _)
    · exact (setLine _ _).trans (setLine _ _)
  · exact (setLine _ _).trans (frameEnd _ _)

theorem openSlot (d : Bool) (s : State) : RamsMove s (openSlot d s) := by
  unfold Machine.openSlot
  split
  · split <;> exact setLine _ _
  · exact openPollSlot d s

theorem beginHeld (f : HeldFrame) (s : State) : RamsMove s (beginHeld f s) := by
  unfold Machine.beginHeld
  split
  · exact setLine _ _
  · split
    · exact setLine _ _
    · exact (setLine _ _).trans (openPollSlot _ _)
  · exact openPollSlot _ _

theorem pollOutcome (p : Fin 16) (b : Bool) (o : PollOutcome) (s : State) : RamsMove s (pollOutcome p b o s) := by
  unfold Machine.pollOutcome
  split
  · exact putAPod _ _ _
  · exact refl s

theorem hitArrivals (p : Fin 16) (hs : List Hit) (s : State) :
    RamsMove s (hs.foldl (fun u h => Machine.hitArrival p h u) s) := by
  induction hs generalizing s with
  | nil => exact refl s
  | cons h hs ih => exact (hitArrival p h s).trans (ih _)

theorem goodReply (p : Fin 16) (reply : List Byte) (s : State) : RamsMove s (goodReply p reply s) := by
  unfold Machine.goodReply
  simp only
  split
  · exact ((pollOutcome _ _ _ _).trans (setAPod _ _ _)).trans (hitArrivals _ _ _)
  · exact (pollOutcome _ _ _ _).trans (hitArrivals _ _ _)

theorem takeReply (p : Fin 16) (began : Nat) (b : Bool) (reply : List Byte) (s : State) :
    RamsMove s (takeReply p began b reply s) := by
  unfold Machine.takeReply
  split
  · split
    · exact (goodReply _ _ _).trans (frameEnd _ _)
    · exact frameEnd _ _
  · exact (pollOutcome _ _ _ _).trans (setLine _ _)

theorem setLineState (x : LineState) (s : State) : RamsMove s (setLineState x s) := by
  have h (y : CrackSet) : RamsMove s { s with crackset := y } := of_eq rfl rfl
  exact (h _).trans (markIf _ _ _)

theorem enterStuck (s : State) : RamsMove s (enterStuck s) := by
  unfold Machine.enterStuck
  simp only
  split
  iterate 3 exact ((setLineState _ _).trans (setLine _ _)).trans (frameEndNotice _)
  all_goals exact (setLineState _ _).trans (setLine _ _)

theorem restartLine (s : State) : RamsMove s (restartLine s) := by
  unfold Machine.restartLine
  simp only
  exact (setLine _ _).trans (forAll clearSlot _)

theorem uncountPoll (p : Fin 16) (s : State) : RamsMove s (uncountPoll p s) := by
  unfold Machine.uncountPoll
  split
  · split
    · exact setLine _ _
    · exact refl s
  all_goals exact refl s

/-! ## The events -/

theorem passTo (c : Nat) (s : State) : RamsMove s (passTo c s) := of_eq rfl rfl

theorem latchBroadcastDone (a d : Bool) (s : State) : RamsMove s (latchBroadcastDone a d s) := by
  unfold Machine.latchBroadcastDone
  simp only
  split
  · have h : RamsMove s (stopSent (Machine.passTo (s.round.busStart + latchBits a * busBit s) s)) :=
      (passTo _ _).trans (setRound _ _)
    split
    · exact (h.trans (setRound _ _)).trans (completeRound _ _)
    · exact (h.trans (setRound _ _)).trans (enterWait _)
  · exact refl s

theorem latchWaitExpiry (s : State) : RamsMove s (latchWaitExpiry s) := by
  unfold Machine.latchWaitExpiry
  simp only
  split
  · exact ((passTo _ _).trans (setPlan _ _)).trans (setRound _ _)
  · exact refl s

theorem podReadDone (reply : PodReply) (s : State) : RamsMove s (podReadDone reply s) := by
  unfold Machine.podReadDone
  split
  · exact ((passTo _ _).trans (setRound _ _)).trans (podJudged _ _)
  · exact refl s

theorem clearStart (why : ClearReason) (s : State) : RamsMove s (clearStart why s) :=
  (setPlan _ _).trans (setRound _ _)

theorem stretchTimeout (s : State) : RamsMove s (stretchTimeout s) := by
  unfold Machine.stretchTimeout
  simp only
  split
  · exact ((passTo _ _).trans (setRound _ _)).trans (clearStart _ _)
  · split
    · exact ((passTo _ _).trans (roundMiss _ _ _)).trans (clearStart _ _)
    · exact (passTo _ _).trans (clearStart _ _)
  all_goals exact refl s

theorem busClearDone (result : BusClearEnd) (s : State) : RamsMove s (busClearDone result s) := by
  unfold Machine.busClearDone
  simp only
  split
  · split
    · exact (passTo _ _).trans (clearSucceeded _)
    all_goals exact (passTo _ _).trans (clearFailed _)
  · exact refl s

theorem slotOpen (d : Bool) (s : State) : RamsMove s (slotOpen d s) := by
  unfold Machine.slotOpen
  simp only
  split
  · exact refl s
  · split
    · exact (passTo _ _).trans (openSlot _ _)
    · exact ((passTo _ _).trans (setLine _ _)).trans (openSlot _ _)
    all_goals exact refl s

theorem countContention (s : State) : RamsMove s (countContention s) := of_eq rfl rfl

theorem contention (s : State) : RamsMove s (contention s) := by
  unfold Machine.contention
  split
  · split
    · exact (((passTo _ _).trans (countContention _)).trans (pollOutcome _ _ _ _)).trans (setLine _ _)
    · exact refl s
  · split
    · exact ((passTo _ _).trans (countContention _)).trans (setLine _ _)
    · exact refl s
  all_goals exact refl s

theorem replyFails (p : Fin 16) (began : Nat) (b : Bool) (n : Nat) (s : State) :
    RamsMove s (replyFails p began b n s) :=
  ((passTo _ _).trans (pollOutcome _ _ _ _)).trans (setLine _ _)

theorem replyTimeout (falls : List LineFall) (s : State) : RamsMove s (replyTimeout falls s) := by
  unfold Machine.replyTimeout
  split
  · split
    · exact ((passTo _ _).trans (pollOutcome _ _ _ _)).trans (frameEnd _ _)
    · exact ((passTo _ _).trans (pollOutcome _ _ _ _)).trans (frameEnd _ _)
    · exact replyFails _ _ _ _ _
    · exact refl s
  all_goals exact refl s

theorem replyFrameError (s : State) : RamsMove s (replyFrameError s) := by
  unfold Machine.replyFrameError
  split
  · exact replyFails _ _ _ _ _
  all_goals exact refl s

theorem replyReceived (falls : List LineFall) (s : State) : RamsMove s (replyReceived falls s) := by
  unfold Machine.replyReceived
  split
  · split
    · exact (passTo _ _).trans (takeReply _ _ _ _ _)
    · exact replyFails _ _ _ _ _
    · exact refl s
  all_goals exact refl s

theorem quietWaitEnd (s : State) : RamsMove s (quietWaitEnd s) := by
  unfold Machine.quietWaitEnd
  split
  · exact (passTo _ _).trans (frameEnd _ _)
  all_goals exact refl s

theorem requestPulse (n : Nat) (s : State) : RamsMove s (requestPulse n s) := by
  unfold Machine.requestPulse requestSweep
  split
  · split
    · exact refl s
    · split <;> exact setLine _ _
  · exact refl s

theorem lineStuck (s : State) : RamsMove s (if s.crackset.lineState = .ok then Machine.enterStuck s else s) := by
  split
  · exact enterStuck s
  · exact refl s

theorem lineRecovered (s : State) : RamsMove s (lineRecovered s) := by
  unfold Machine.lineRecovered
  simp only
  split
  · exact (((passTo _ _).trans (setLineState _ _)).trans (setLine _ _)).trans (openSlot _ _)
  · exact refl s

theorem timeFrameEnd (s : State) : RamsMove s (timeFrameEnd s) := by
  unfold Machine.timeFrameEnd
  split
  · exact (passTo _ _).trans (frameEnd _ _)
  all_goals exact refl s

theorem heldFrameBegin (s : State) : RamsMove s (heldFrameBegin s) := by
  unfold Machine.heldFrameBegin
  split
  · exact beginHeld _ _
  all_goals exact refl s

theorem pulsePeriodStart (s : State) : RamsMove s (pulsePeriodStart s) := by
  refine ⟨rfl, fun r => ?_⟩
  have h : (Machine.pulsePeriodStart s).rams[r] = { s.rams[r] with activeCompare := s.rams[r].shadowCompare } := by
    simp [Machine.pulsePeriodStart]
  rw [h]
  exact .single (.pulse _)

theorem estopAssert (s : State) : RamsMove s (estopAssert s) := by
  have h : RamsMove s { s with hall := { s.hall with estop := .asserted } } := of_eq rfl rfl
  unfold Machine.estopAssert
  split
  · exact h.trans ((tripPath .estop).tripAll _)
  · exact refl s

theorem hpuReadyFall (s : State) : RamsMove s (hpuReadyFall s) := by
  have h : RamsMove s { s with hall := { s.hall with hpuReady := .low } } := of_eq rfl rfl
  unfold Machine.hpuReadyFall
  split
  · exact h.trans ((tripPath .pressure).tripAll _)
  · exact refl s

theorem roundGoesOn (s : State) : RamsMove s (roundGoesOn s) := of_plans (plans_roundGoesOn s)

theorem intervalTimerExpiry (s : State) : RamsMove s (intervalTimerExpiry s) := by
  unfold Machine.intervalTimerExpiry
  split
  · exact (setRound _ _).trans (of_plans (plans_trigger _ _))
  · exact refl s

theorem cyclicStart (s : State) : RamsMove s (cyclicStart s) := by
  unfold Machine.cyclicStart
  split
  · exact of_plans (plans_roundStart _ _ _)
  · exact refl s

theorem delayExpiry (s : State) : RamsMove s (delayExpiry s) := by
  unfold Machine.delayExpiry
  split
  · exact roundGoesOn s
  · exact refl s


/-! ## The requests -/

theorem setPort (p : Port) (s : State) : RamsMove s { s with port := p } := of_eq rfl rfl

theorem portCheck (s : State) : RamsMove s (portCheck s) := by
  rw [portCheck_eq]
  exact of_eq rfl rfl

/-- A request moves the rams as its owner does. -/
theorem request {c : Instr} {body : State → Response × State} {s t : State} (hb : RamsMove s (body s).2)
    (h : request c body s = .next t) : RamsMove s t := by
  unfold Machine.request event takeRequest at h
  split at h
  · cases h
    exact refl s
  · cases h
    split
    · exact hb.trans (of_eq rfl rfl)
    · exact portCheck s

/-- An event moves the rams as its meaning does. -/
theorem event {f : State → State} {s t : State} (hf : RamsMove s (f s)) (h : event f s = .next t) :
    RamsMove s t := by
  unfold Machine.event at h
  split at h
  · cases h
    exact refl s
  · cases h
    exact hf

theorem settleResponse (n : Nat) (s : State) : RamsMove s (settleResponse n s) := by
  unfold Machine.settleResponse
  split
  · exact refl s
  · simp only
    split
    · exact setPort _ _
    · split
      · exact of_eq (by simp) (by simp)
      · exact of_eq (by simp) (by simp)

theorem takeFrame (sdi : List Byte) (s : State) : RamsMove s (takeFrame sdi s) := by
  unfold Machine.takeFrame
  split <;> exact of_eq rfl rfl

theorem selFall (s : State) : RamsMove s (selFall s) := by
  unfold Machine.selFall
  split
  · exact refl s
  · split
    any_goals exact of_eq rfl rfl
    · exact of_eq (by simp) (by simp)

theorem selRise (sdi : List Bool) (s : State) : RamsMove s (selRise sdi s) := by
  unfold Machine.selRise
  split
  · exact refl s
  · simp only
    split
    · exact setPort _ _
    · split
      · exact ((setPort _ _).trans (settleResponse _ _)).trans (takeFrame _ _)
      · exact setPort _ _

theorem readRecord (kind key : Byte) (s : State) : RamsMove s (readRecord kind key s).2 := by
  unfold Machine.readRecord
  split
  · exact refl s
  · exact of_eq rfl rfl

theorem listRecords (start : Option (Byte × Byte)) (s : State) : RamsMove s (listRecords start s).2 := by
  unfold Machine.listRecords
  split
  · exact refl s
  · split <;> exact refl s

/-! ## RESTART -/

theorem restartRam (r : Fin 8) (s : State) : RamsMove s (restartRam r s) := by
  unfold Machine.restartRam
  exact (of_setRam (.stop s.rams[r] .none)).trans (markIf _ _ _)

theorem restartLimit (i : Fin 24) (s : State) : RamsMove s (restartLimit i s) := by
  unfold Machine.restartLimit
  split
  · exact refl s
  · split
    · exact refl s
    · simp only
      split
      · exact (crackPath.putLimit _ _ _).trans (crackPath.notifyRelease _ _)
      · exact crackPath.putLimit _ _ _

theorem restartRound (s : State) : RamsMove s (restartRound s) := by
  have h : RamsMove s (restartTimer (Machine.setRound { s.round with restFlag := false, cyclicDue := false } s)) :=
    (setRound _ _).trans (setRound _ _)
  unfold Machine.restartRound
  simp only
  split
  · exact h
  iterate 2 exact (h.trans (setPlan _ _)).trans (setRound _ _)
  all_goals exact h.trans (setRound _ _)

theorem restartBlocks (s : State) : RamsMove s (restartBlocks s) :=
  ((((forAll restartRam s).trans (forAll (fun _ _ => crackPath.putGroup _ _ _) _)).trans
    (forAll restartLimit _)).trans (restartRound _)).trans (restartLine _)

theorem restartComplete (s : State) : RamsMove s (restartComplete s) := by
  unfold Machine.restartComplete
  simp only
  split
  · split
    · rw [endRestartedByte_eq]
      exact of_eq rfl rfl
    · exact of_eq rfl rfl
  · exact refl s

/-! ## Rams, groups, gauges, pods, cracks and limits -/

theorem onRam {f : Fin 8 → State → Response × State} (h : ∀ r s, RamsMove s (f r s).2) (key : Byte) (s : State) :
    RamsMove s (onRam key f s).2 := by
  unfold Machine.onRam
  split
  · exact h _ s
  · exact refl s

theorem fsForce_ne_zero_of_startRefusal {r : Fin 8} {s : State} (h : startRefusal r s = none) :
    s.rams[r].fsForce ≠ 0 := by
  intro hz
  unfold startRefusal at h
  simp only [hz] at h
  split_ifs at h

theorem startRequest (r : Fin 8) (s : State) : RamsMove s (startRequest r s).2 := by
  unfold Machine.startRequest
  split
  · exact refl s
  next hn => exact (of_setRam (.start _ (fsForce_ne_zero_of_startRefusal hn))).trans (mark _ _)

theorem stopRequest (r : Fin 8) (s : State) : RamsMove s (stopRequest r s).2 := by
  unfold Machine.stopRequest
  simp only
  split
  · split
    · exact (of_setRam (.stop s.rams[r] s.rams[r].tripCause)).trans (mark _ _)
    · exact refl s
  all_goals exact refl s

theorem clearRequest (r : Fin 8) (s : State) : RamsMove s (clearRequest r s).2 := by
  unfold Machine.clearRequest
  simp only
  split
  next ht => exact (of_setRam (.clear _ ht)).trans (mark _ _)
  all_goals exact refl s

theorem onGroup {f : Fin 4 → State → Response × State} (h : ∀ g s, RamsMove s (f g s).2) (key : Byte) (s : State) :
    RamsMove s (onGroup key f s).2 := by
  unfold Machine.onGroup
  split
  · exact h _ s
  · exact refl s

theorem runResumeRequest (g : Fin 4) (s : State) : RamsMove s (runResumeRequest g s).2 := by
  unfold Machine.runResumeRequest
  split
  · exact refl s
  · split
    · unfold runResume
      simp only
      split
      · split <;> exact crackPath.putGroup _ _ _
      · exact crackPath.putGroup _ _ _
    · exact refl s

theorem runFromStepRequest (form : Byte) (g : Fin 4) (s : State) : RamsMove s (runFromStepRequest form g s).2 := by
  unfold Machine.runFromStepRequest
  split
  · exact refl s
  · split
    · exact refl s
    · split
      · exact crackPath.putGroup _ _ _
      · exact refl s

theorem pauseNowRequest (g : Fin 4) (s : State) : RamsMove s (pauseNowRequest g s).2 := by
  unfold Machine.pauseNowRequest
  split
  iterate 2 exact crackPath.putGroup _ _ _
  all_goals exact refl s

theorem pauseAtCycleEndRequest (g : Fin 4) (s : State) : RamsMove s (pauseAtCycleEndRequest g s).2 := by
  unfold Machine.pauseAtCycleEndRequest
  simp only
  split
  · split <;> exact crackPath.putGroup _ _ _
  all_goals exact refl s

theorem unloadRequest (g : Fin 4) (s : State) : RamsMove s (unloadRequest g s).2 := by
  unfold Machine.unloadRequest
  split
  iterate 3 exact crackPath.unloadGroup _ _
  all_goals exact refl s

theorem releaseRequest (g : Fin 4) (s : State) : RamsMove s (releaseRequest g s).2 := by
  unfold Machine.releaseRequest
  simp only
  split
  · exact crackPath.putGroup _ _ _
  · exact refl s

theorem onGauges (sel : Byte) (f : Gauge → Gauge) (s : State) : RamsMove s (onGauges sel f s).2 := by
  have h (v : Vector Gauge 48) : RamsMove s { s with gauges := v } := of_eq rfl rfl
  unfold Machine.onGauges
  simp only
  split
  · split
    · exact h _
    · exact refl s
  · split
    · exact h _
    · exact refl s

theorem podCountersRequest (sel : Byte) (s : State) : RamsMove s (podCountersRequest sel s).2 := by
  unfold Machine.podCountersRequest
  simp only
  split
  · exact setAPod _ _ _
  · split
    · exact of_eq rfl rfl
    · exact refl s

theorem roundRequest (s : State) : RamsMove s (roundRequest s).2 := by
  unfold Machine.roundRequest
  split
  · exact of_plans (plans_roundStart .supervisor false s)
  · exact refl s

theorem setArmed (b : Bool) (s : State) : RamsMove s (setArmed b s) := (setPlan _ _).trans (markIf _ _ _)

theorem findRequest (x : Word) (s : State) : (findRequest x s).2 = s := by
  unfold Machine.findRequest
  repeat' split
  all_goals rfl

theorem onCrack {f : Fin 32 → Crack → State → Response × State} (h : ∀ c y s, RamsMove s (f c y s).2) (key : Byte)
    (s : State) : RamsMove s (onCrack key f s).2 := by
  unfold Machine.onCrack
  split
  · split
    · exact h _ _ s
    · exact refl s
  · exact refl s

theorem ackRequest (c : Fin 32) (y : Crack) (s : State) : RamsMove s (ackRequest c y s).2 := by
  unfold Machine.ackRequest
  split
  · exact refl s
  · exact (crackPath.putCrack _ _ _).trans (crackPath.noticeZones _ _)

theorem widthRequest (w : BitVec 16) (c : Fin 32) (y : Crack) (s : State) : RamsMove s (widthRequest w c y s).2 := by
  unfold Machine.widthRequest
  split
  · exact refl s
  · exact (crackPath.putCrack _ _ _).trans (crackPath.noticeZones _ _)

theorem retireRequest (c : Fin 32) (y : Crack) (s : State) : RamsMove s (retireRequest c y s).2 :=
  (crackPath.putCrack _ _ _).trans (crackPath.noticeZones _ _)

theorem mergeRequest (a b : Byte) (s : State) : RamsMove s (mergeRequest a b s).2 := by
  refine onCrack (fun i x s => onCrack (fun j y s => ?_) b s) a s
  split
  · exact refl s
  · split <;> exact mergeCracks _ _ _ _ _

theorem onLimit {f : Fin 24 → Limit → State → Response × State} (h : ∀ i l s, RamsMove s (f i l s).2) (key : Byte)
    (s : State) : RamsMove s (onLimit key f s).2 := by
  unfold Machine.onLimit
  split
  · split
    · exact h _ _ s
    · exact refl s
  · exact refl s

theorem limitAckRequest (i : Fin 24) (l : Limit) (s : State) : RamsMove s (limitAckRequest i l s).2 := by
  unfold Machine.limitAckRequest
  split
  · exact ((crackPath.putLimit _ _ _).trans (crackPath.notifyRelease _ _)).trans (crackPath.evalLimit _ _)
  · exact refl s

theorem limitRetireRequest (i : Fin 24) (l : Limit) (s : State) : RamsMove s (limitRetireRequest i l s).2 := by
  unfold Machine.limitRetireRequest
  simp only
  split
  · exact (crackPath.putLimit _ _ _).trans (crackPath.notifyRelease _ _)
  · exact crackPath.putLimit _ _ _

/-! ## The writes of every record but HALL and RAM -/

theorem writeGroup (g : Fin 4) (pairs : List (Nat × Int)) (s : State) : RamsMove s (writeGroup g pairs s) := by
  unfold Machine.writeGroup
  simp only
  split
  · exact (crackPath.putGroup _ _ _).trans (recomputeRefs _)
  · exact crackPath.putGroup _ _ _

theorem setStep (i : Fin 64) (x : StepRec) (s : State) : RamsMove s (setStep i x s) := of_eq rfl rfl

theorem writeStep (i : Fin 64) (pairs : List (Nat × Int)) (s : State) : RamsMove s (writeStep i pairs s) := by
  unfold Machine.writeStep
  simp only
  split
  · exact (setStep _ _ _).trans (crackPath.putGroup _ _ _)
  · exact setStep _ _ _

theorem writePlan (pairs : List (Nat × Int)) (s : State) : RamsMove s (writePlan pairs s) := by
  unfold Machine.writePlan
  simp only
  split
  · exact (setPlan _ _).trans (setRound _ _)
  · exact setPlan _ _

theorem writeGauge (k : Fin 48) (pairs : List (Nat × Int)) (s : State) : RamsMove s (writeGauge k pairs s) := by
  have h (t : State) (v : Vector GPod 12) : RamsMove t { t with gpods := v } := of_eq rfl rfl
  unfold Machine.writeGauge
  simp only
  split
  · split
    · exact putGauge _ _ _
    · split
      · split
        · exact putGauge _ _ _
        · exact (putGauge _ _ _).trans (h _ _)
      · exact putGauge _ _ _
  · exact putGauge _ _ _

theorem writeAPod (p : Fin 16) (pairs : List (Nat × Int)) (s : State) : RamsMove s (writeAPod p pairs s) := by
  unfold Machine.writeAPod
  simp only
  split
  · split
    · exact putAPod _ _ _
    · split
      · exact ((putAPod _ _ _).trans (uncountPoll _ _)).trans (clearSlot _ _)
      · exact putAPod _ _ _
  · exact putAPod _ _ _

theorem writeLimit (l : Fin 24) (pairs : List (Nat × Int)) (s : State) : RamsMove s (writeLimit l pairs s) := by
  unfold Machine.writeLimit
  simp only
  split
  · split
    · exact (crackPath.putLimit _ _ _).trans (crackPath.evalLimit _ _)
    · exact crackPath.putLimit _ _ _
  · split
    · split
      · exact refl s
      · exact (crackPath.putLimit _ _ _).trans (crackPath.evalLimit _ _)
    · split
      · split
        · exact (crackPath.putLimit _ _ _).trans (crackPath.notifyRelease _ _)
        · exact crackPath.putLimit _ _ _
      · exact crackPath.putLimit _ _ _


/-! ## The writes of HALL and of a RAM -/

end RamsMove

/-- What every pair of a WRITE keeps, the whole WRITE keeps. -/
theorem putAll_invariant {α : Type} {put : Nat → Int → α → α} {P : α → Prop} {pairs : List (Nat × Int)} {x : α}
    (h : ∀ p ∈ pairs, ∀ y, P y → P (put p.1 p.2 y)) (hx : P x) : P (putAll put pairs x) := by
  unfold putAll
  induction pairs generalizing x with
  | nil => exact hx
  | cons p ps ih =>
    exact ih (fun q hq => h q (List.mem_cons_of_mem _ hq)) (h p List.mem_cons_self x hx)

theorem pwmPeriod_put {f : Nat} (hf : f ≠ 3) (v : Int) (h : Hall) : (h.put f v).pwmPeriod = h.pwmPeriod := by
  unfold Hall.put
  split <;> simp_all

/-- The pairs of a run that passes were each let through by the owner of the record (R178 step 4). -/
theorem letsWrite_of_checkPairs {s : State} {r : RecordId} {pairs : List (Nat × Int)} {n : Nat}
    {seen : List (Nat × Int)} {items : List Byte} (h : checkPairs s r n seen items = .good pairs)
    (hs : ∀ p ∈ seen, letsWrite s r p.1 = true) : ∀ p ∈ pairs, letsWrite s r p.1 = true := by
  induction n generalizing seen items with
  | zero =>
    cases items with
    | nil =>
      cases h
      exact hs
    | cons f rest => simp [checkPairs] at h
  | succ n ih =>
    cases items with
    | nil =>
      cases h
      exact hs
    | cons f rest =>
      simp only [checkPairs] at h
      split at h
      · cases h
      · split at h
        · cases h
        · split at h
          · cases h
          next hc =>
            refine ih h fun p hp => ?_
            rcases List.mem_append.mp hp with hp | hp
            · exact hs p hp
            · rw [List.mem_singleton.mp hp]
              unfold checkPair at hc
              simp only at hc
              split_ifs at hc with _ _ hl
              simpa using hl

/-- From s to t a WRITE of pwm_period, taken while no ram is ACTIVE, has given every channel the new mid (R32). -/
def PwmWritten (s t : State) : Prop :=
  ∀ r : Fin 8, s.rams[r].state ≠ .active ∧
    t.rams[r] = { s.rams[r] with shadowCompare := midCompare t, activeCompare := midCompare t }

theorem not_active_of_letsWrite {s : State} (h : letsWrite s .hall 3 = true) (r : Fin 8) :
    s.rams[r].state ≠ .active := by
  intro ha
  simp only [letsWrite, if_true, Bool.not_eq_true', someRamActive, List.any_eq_false] at h
  exact h r (List.mem_finRange r) (by simpa using ha)

/-- An accepted WRITE of HALL leaves the rams, or gives every channel the mid of a new pulse period (R32). -/
theorem writeHall_rams {s : State} {pairs : List (Nat × Int)} (hl : ∀ p ∈ pairs, letsWrite s .hall p.1 = true) :
    RamsMove s (writeHall pairs s) ∨ PwmWritten s (writeHall pairs s) := by
  unfold writeHall
  simp only
  split
  next hn =>
    right
    obtain ⟨p, hp, h3⟩ := List.any_eq_true.mp hn
    have hl3 := hl p hp
    rw [eq_of_beq h3] at hl3
    exact fun r => ⟨not_active_of_letsWrite hl3 r, by simp [midCompare]⟩
  next hn =>
    left
    refine .of_eq (putAll_invariant (P := fun y : Hall => y.pwmPeriod = s.hall.pwmPeriod) (fun p hp y hy => ?_) rfl) rfl
    rw [pwmPeriod_put _ _ _, hy]
    intro h3
    exact hn (List.any_eq_true.mpr ⟨p, hp, by simpa using h3⟩)

/-- An accepted WRITE of a RAM record keeps the relations of R29, and fs_force while the ram is ACTIVE. -/
theorem writeRam_moves {s : State} {r : Fin 8} {pairs : List (Nat × Int)}
    (hl : ∀ p ∈ pairs, letsWrite s (.ram r) p.1 = true) (hr : relationRefusal s (.ram r) pairs = none) :
    RamsMove s (setRam r (putAll Ram.put pairs s.rams[r]) s) := by
  refine .of_setRam (.write _ _ (fun ha p hp h5 => ?_) ?_)
  · have := hl p hp
    rw [h5] at this
    simp [letsWrite] at this
    exact this ha
  · simpa [relationRefusal] using hr

/-- An accepted WRITE of any record. -/
theorem applyWrite_rams {s : State} {r : RecordId} {pairs : List (Nat × Int)}
    (hl : ∀ p ∈ pairs, letsWrite s r p.1 = true) (hr : relationRefusal s r pairs = none) :
    RamsMove s (applyWrite r pairs s) ∨ PwmWritten s (applyWrite r pairs s) := by
  cases r with
  | hall => exact writeHall_rams hl
  | ram r => exact .inl (writeRam_moves hl hr)
  | group g => exact .inl (.writeGroup g _ s)
  | step i => exact .inl (.writeStep i _ s)
  | plan => exact .inl (.writePlan _ s)
  | gauge k => exact .inl (.writeGauge k _ s)
  | apod p => exact .inl (.writeAPod p _ s)
  | crackset => exact .inl (.of_eq rfl rfl)
  | limit l => exact .inl (.writeLimit l _ s)
  | gpod p => exact .inl (.refl s)
  | crack c => exact .inl (.refl s)

/-- A WRITE under any of its names (R178). -/
theorem writeRecord_rams (kind key : Byte) (items : List Byte) (s : State) :
    RamsMove s (writeRecord kind key items s).2 ∨ PwmWritten s (writeRecord kind key items s).2 := by
  unfold writeRecord
  split
  · exact .inl (.refl s)
  · split
    · exact .inl (.refl s)
    · split
      · exact .inl (.refl s)
      next pairs hg =>
        split
        · exact .inl (.refl s)
        next hr => exact applyWrite_rams (letsWrite_of_checkPairs hg (by simp)) hr

theorem request_writeRecord_rams {c : Instr} {kind key : Byte} {items : List Byte} {s t : State}
    (h : request c (writeRecord kind key items) s = .next t) : RamsMove s t ∨ PwmWritten s t := by
  rcases writeRecord_rams kind key items s with hw | hw
  · exact .inl (.request hw h)
  · unfold request event takeRequest at h
    split at h
    · cases h
      exact .inl (.refl s)
    · cases h
      split
      · exact .inr hw
      · exact .inl (.portCheck s)

/-! ## Every command -/

/-- What a command can do to the rams: moves of each, a new pulse period in every channel, or the release of reset. -/
theorem exec_rams {c : Instr} {s t : State} (h : exec c s = .next t) :
    RamsMove s t ∨ PwmWritten s t ∨ ∃ hpu estop, t = { State.powerOn hpu estop with pending := s.pending } := by
  have hw {c : Instr} {kind key : Byte} {items : List Byte}
      (h : request c (writeRecord kind key items) s = .next t) :
      RamsMove s t ∨ PwmWritten s t ∨ ∃ hpu estop, t = { State.powerOn hpu estop with pending := s.pending } :=
    (request_writeRecord_rams h).imp_right .inl
  cases c with
  | resetAssert =>
    cases h
    exact .inl (.of_eq rfl rfl)
  | powerOnReset hpu estop =>
    cases h
    exact .inr (.inr ⟨hpu, estop, rfl⟩)
  | controlTick => exact .inl (.event (f := controlTick) (.of_eq rfl rfl) h)
  | sampleSet counts => exact .inl (.event (.sampleSet counts s) h)
  | pulsePeriodStart => exact .inl (.event (.pulsePeriodStart s) h)
  | estopAssert => exact .inl (.event (.estopAssert s) h)
  | estopRelease =>
    exact .inl (.event (f := fun s => { s with hall := { s.hall with estop := .clear } }) (.of_eq rfl rfl) h)
  | hpuReadyFall => exact .inl (.event (.hpuReadyFall s) h)
  | hpuReadyRise =>
    exact .inl (.event (f := fun s => { s with hall := { s.hall with hpuReady := .high } }) (.of_eq rfl rfl) h)
  | selFall => exact .inl (.event (.selFall s) h)
  | selRise sdi => exact .inl (.event (.selRise sdi s) h)
  | identify => exact .inl (.request (.refl s) h)
  | read kind key => exact .inl (.request (.readRecord kind key s) h)
  | write kind key items => exact hw h
  | stepWrite kind key items => exact hw h
  | seatLoadWrite group items => exact hw h
  | zoneWrite group items => exact hw h
  | gaugeEnable gauge items => exact hw h
  | gaugeDisable gauge items => exact hw h
  | apodEnable pod items => exact hw h
  | apodDisable pod items => exact hw h
  | planWrite key items => exact hw h
  | pwmPeriodWrite key items => exact hw h
  | attentionMaskWrite key items => exact hw h
  | limitDefine slot items => exact hw h
  | limitEdit slot items => exact hw h
  | limitEnable slot items => exact hw h
  | limitDisable slot items => exact hw h
  | listChanged start => exact .inl (.request (.listRecords start s) h)
  | restart =>
    refine .inl (.event (f := takeRequest .restart _) ?_ h)
    unfold takeRequest
    split
    · exact (RamsMove.restartBlocks s).trans (.setPort _ _)
    · exact .portCheck s
  | restartComplete => exact .inl (.event (.restartComplete s) h)
  | groupRunResume group => exact .inl (.request (.onGroup .runResumeRequest group s) h)
  | groupRunFromStep group form => exact .inl (.request (.onGroup (.runFromStepRequest form) group s) h)
  | groupPauseNow group => exact .inl (.request (.onGroup .pauseNowRequest group s) h)
  | groupPauseAtCycleEnd group => exact .inl (.request (.onGroup .pauseAtCycleEndRequest group s) h)
  | groupUnload group => exact .inl (.request (.onGroup .unloadRequest group s) h)
  | groupRelease group => exact .inl (.request (.onGroup .releaseRequest group s) h)
  | ramStart ram => exact .inl (.request (.onRam .startRequest ram s) h)
  | ramStop ram => exact .inl (.request (.onRam .stopRequest ram s) h)
  | ramClear ram => exact .inl (.request (.onRam .clearRequest ram s) h)
  | gaugeRound => exact .inl (.request (.roundRequest s) h)
  | gaugeArmArm => exact .inl (.request (body := fun s => (ok, restartTimer (setArmed true s)))
      ((RamsMove.setArmed true s).trans (.setRound _ _)) h)
  | gaugeArmDisarm => exact .inl (.request (.setArmed false s) h)
  | gaugeZero sel => exact .inl (.request (.onGauges sel _ s) h)
  | peakReset sel => exact .inl (.request (.onGauges sel _ s) h)
  | podCountersClear sel => exact .inl (.request (.podCountersRequest sel s) h)
  | findCrack x => exact .inl (.request (body := findRequest x) (by rw [RamsMove.findRequest]; exact .refl s) h)
  | crackAck slot => exact .inl (.request (.onCrack .ackRequest slot s) h)
  | crackWidth slot width => exact .inl (.request (.onCrack (.widthRequest width) slot s) h)
  | crackRetire slot => exact .inl (.request (.onCrack .retireRequest slot s) h)
  | crackMerge a b => exact .inl (.request (.mergeRequest a b s) h)
  | limitAck slot => exact .inl (.request (.onLimit .limitAckRequest slot s) h)
  | limitRetire slot => exact .inl (.request (.onLimit .limitRetireRequest slot s) h)
  | intervalTimerExpiry => exact .inl (.event (.intervalTimerExpiry s) h)
  | cyclicStart => exact .inl (.event (.cyclicStart s) h)
  | delayExpiry => exact .inl (.event (.delayExpiry s) h)
  | latchBroadcastDone a d => exact .inl (.event (.latchBroadcastDone a d s) h)
  | latchWaitExpiry => exact .inl (.event (.latchWaitExpiry s) h)
  | podReadDone reply => exact .inl (.event (.podReadDone reply s) h)
  | stretchTimeout => exact .inl (.event (.stretchTimeout s) h)
  | busClearDone result => exact .inl (.event (.busClearDone result s) h)
  | timeFrameDue => exact .inl (.event (f := timeFrameDue) ((RamsMove.passTo _ _).trans (.setLine _ _)) h)
  | slotOpen d => exact .inl (.event (.slotOpen d s) h)
  | contention => exact .inl (.event (.contention s) h)
  | replyTimeout falls => exact .inl (.event (.replyTimeout falls s) h)
  | replyFrameError => exact .inl (.event (.replyFrameError s) h)
  | replyReceived falls => exact .inl (.event (.replyReceived falls s) h)
  | quietWaitEnd => exact .inl (.event (.quietWaitEnd s) h)
  | requestPulse n => exact .inl (.event (.requestPulse n s) h)
  | lineStuck => exact .inl (.event (.lineStuck s) h)
  | lineRecovered => exact .inl (.event (.lineRecovered s) h)
  | timeFrameEnd => exact .inl (.event (.timeFrameEnd s) h)
  | heldFrameBegin => exact .inl (.event (.heldFrameBegin s) h)

/-- What a step can do to the rams. -/
theorem step_rams {s t : State} (h : step s = .next t) :
    RamsMove s t ∨ PwmWritten s t ∨ ∃ hpu estop q, t = { State.powerOn hpu estop with pending := q } := by
  unfold step at h
  split at h
  next c rest _ =>
    rcases exec_rams h with hm | hp | ⟨hpu, estop, ht⟩
    · exact .inl hm
    · exact .inr (.inl hp)
    · exact .inr (.inr ⟨hpu, estop, rest, ht⟩)
  · cases h
    unfold idleCycle
    split
    · exact .inl (.refl s)
    · exact .inl ((RamsMove.passTo _ _).trans (.portCheck _))

end Sys2Proof.Machine
end

section
/-! The laws of the valve commands and of the force bounds: each move of a RAM record keeps them, so every step does. -/

namespace Sys2Proof.Machine

/-! ## Arithmetic of chapter 3.1 -/

theorem le_limitTo {lo hi : Int} (h : lo ≤ hi) (v : Int) : lo ≤ limitTo lo hi v := by
  unfold limitTo
  split
  · exact le_refl lo
  · split <;> omega

theorem limitTo_le {lo hi : Int} (h : lo ≤ hi) (v : Int) : limitTo lo hi v ≤ hi := by
  unfold limitTo
  split
  · exact h
  · split <;> omega

/-- A setpoint slewed from within an interval toward a value within it stays within it (R53). -/
theorem slewed_mem {lo hi old d : Int} (n : Nat) (ho : lo ≤ old ∧ old ≤ hi) (hd : lo ≤ d ∧ d ≤ hi) :
    lo ≤ slewed old d n ∧ slewed old d n ≤ hi := by
  unfold slewed
  split
  · exact hd
  · split <;> omega

theorem midOf_le (pwm : Nat) : midOf pwm ≤ pwm := by
  have h : (0 : Int) ≤ pwm := by omega
  simp only [midOf, roundDiv, if_pos h]
  omega

/-- A valve command within ±10000 gives a compare within the pulse period (R58). -/
theorem pulseCompare_le {pwm : Nat} {u : Int} (h0 : -10000 ≤ u) (h1 : u ≤ 10000) : pulseCompare pwm u ≤ pwm := by
  have hlo : (0 : Int) ≤ pwm * (10000 + u) := Int.mul_nonneg (by omega) (by omega)
  have hhi : (pwm : Int) * (10000 + u) ≤ pwm * 20000 := Int.mul_le_mul_of_nonneg_left (by omega) (by omega)
  simp only [pulseCompare, roundDiv, if_pos hlo]
  omega

/-! ## The valve laws of one ram -/

/-- What ValveLaw and CompareLaw say of one ram at a pulse period. -/
structure Ram.ValveSafe (pwm : Nat) (x : Ram) : Prop where
  command : -10000 ≤ x.u ∧ x.u ≤ 10000
  integral : -integratorTop ≤ x.integrator ∧ x.integrator ≤ integratorTop
  rest : x.state ≠ .active → x.Resting (midOf pwm)
  shadow : x.shadowCompare ≤ pwm
  active : x.activeCompare ≤ pwm

theorem valveLaws_iff (s : State) :
    ValveLaw s ∧ CompareLaw s ↔ ∀ r : Fin 8, (s.rams[r]).ValveSafe s.hall.pwmPeriod := by
  constructor
  · rintro ⟨hv, hc⟩ r
    obtain ⟨hu, hi, hr⟩ := hv r
    exact ⟨hu, hi, hr, (hc r).1, (hc r).2⟩
  · intro h
    exact ⟨fun r => ⟨(h r).command, (h r).integral, (h r).rest⟩, fun r => ⟨(h r).shadow, (h r).active⟩⟩

theorem resting_atRest (mid : Nat) (x : Ram) : (x.atRest mid).Resting mid :=
  ⟨rfl, rfl, rfl, rfl, rfl, rfl, rfl, rfl, rfl, rfl⟩

/-- A ram at rest satisfies the valve laws in whatever state (R31, R38). -/
theorem Ram.ValveSafe.atRest {pwm : Nat} {x : Ram} (h : x.ValveSafe pwm) : (x.atRest (midOf pwm)).ValveSafe pwm where
  command := by simp [Ram.atRest]
  integral := by simp [Ram.atRest, integratorTop]
  rest _ := resting_atRest _ _
  shadow := midOf_le pwm
  active := h.active

/-- The force chain keeps the valve command and the integrator in bounds (R56 to R58). -/
theorem Ram.ValveSafe.chain {pwm : Nat} {x : Ram} (h : x.ValveSafe pwm) (ha : x.state = .active) (gN : Int)
    (derate : Nat) : (x.chain gN derate pwm).ValveSafe pwm where
  command := ⟨le_limitTo (by omega) _, limitTo_le (by omega) _⟩
  integral := by
    have ht : -integratorTop ≤ integratorTop := by decide
    have hlo (v : Int) := le_limitTo ht v
    have hhi (v : Int) := limitTo_le ht v
    unfold Ram.chain
    simp only
    split
    · split
      · exact ⟨hlo _, hhi _⟩
      · exact h.integral
    · split
      · split
        · exact ⟨hlo _, hhi _⟩
        · exact h.integral
      · exact ⟨hlo _, hhi _⟩
  rest hn := absurd ha hn
  shadow := pulseCompare_le (le_limitTo (by omega) _) (limitTo_le (by omega) _)
  active := h.active

/-- Every move of a RAM record keeps the valve laws. -/
theorem RamMove.valveSafe {pwm : Nat} {x y : Ram} (m : RamMove pwm x y) (h : x.ValveSafe pwm) : y.ValveSafe pwm := by
  cases m with
  | trip cause _ =>
    have hr := h.atRest
    exact ⟨hr.command, hr.integral, fun _ => resting_atRest (midOf pwm) x, hr.shadow, hr.active⟩
  | convert => exact ⟨h.command, h.integral, h.rest, h.shadow, h.active⟩
  | countCoil ha => exact ⟨h.command, h.integral, fun hn => absurd ha hn, h.shadow, h.active⟩
  | chain gN derate ha =>
    have hc := h.chain ha gN derate
    exact ⟨hc.command, hc.integral, fun hn => absurd ha hn, hc.shadow, hc.active⟩
  | pulse => exact ⟨h.command, h.integral, h.rest, h.shadow, h.shadow⟩
  | start _ =>
    have hr := h.atRest
    exact ⟨hr.command, hr.integral, fun hn => absurd rfl hn, hr.shadow, hr.active⟩
  | stop cause =>
    have hr := h.atRest
    exact ⟨hr.command, hr.integral, fun _ => resting_atRest (midOf pwm) x, hr.shadow, hr.active⟩
  | clear ht =>
    exact ⟨h.command, h.integral, fun _ => h.rest (by simp [ht]), h.shadow, h.active⟩
  | write pairs _ _ =>
    refine putAll_invariant (fun p _ y hy => ?_) h
    unfold Ram.put
    split <;> exact ⟨hy.command, hy.integral, hy.rest, hy.shadow, hy.active⟩

/-- A new pulse period, taken while no ram is ACTIVE, keeps the valve laws (R32). -/
theorem PwmWritten.valveSafe {s t : State} (hw : PwmWritten s t)
    (h : ∀ r : Fin 8, (s.rams[r]).ValveSafe s.hall.pwmPeriod) (r : Fin 8) : (t.rams[r]).ValveSafe t.hall.pwmPeriod := by
  obtain ⟨hna, hr⟩ := hw r
  obtain ⟨hu, hi, hrest, -, -⟩ := h r
  obtain ⟨h1, h2, h3, h4, h5, h6, h7, h8, h9, -⟩ := hrest hna
  rw [hr]
  exact ⟨hu, hi, fun _ => ⟨h1, h2, h3, h4, h5, h6, h7, h8, h9, rfl⟩, midOf_le _, midOf_le _⟩

theorem powerOn_valveSafe (hpu : HpuLevel) (estop : EstopLevel) (r : Fin 8) :
    ((State.powerOn hpu estop).rams[r]).ValveSafe (State.powerOn hpu estop).hall.pwmPeriod := by
  have h : (State.powerOn hpu estop).rams[r] = {} := by simp [State.powerOn]
  rw [h]
  refine ⟨?_, ?_, fun _ => ?_, ?_, ?_⟩ <;> simp [State.powerOn, integratorTop, Ram.Resting, midOf, roundDiv]

/-- Every step keeps what holds of each ram, where each move, a new pulse period and the release of reset keep it. -/
theorem step_keeps_rams {P : Nat → Ram → Prop} (hm : ∀ {pwm x y}, RamMove pwm x y → P pwm x → P pwm y)
    (hw : ∀ {s t : State}, PwmWritten s t → (∀ r : Fin 8, P s.hall.pwmPeriod s.rams[r]) →
      ∀ r : Fin 8, P t.hall.pwmPeriod t.rams[r])
    (hp : ∀ hpu estop (r : Fin 8), P (State.powerOn hpu estop).hall.pwmPeriod (State.powerOn hpu estop).rams[r])
    {s t : State} (hs : ∀ r : Fin 8, P s.hall.pwmPeriod s.rams[r]) (h : step s = .next t) (r : Fin 8) :
    P t.hall.pwmPeriod t.rams[r] := by
  rcases step_rams h with ⟨hpwm, hr⟩ | hwr | ⟨hpu, estop, q, rfl⟩
  · rw [hpwm]
    have hx := hs r
    have hxy := hr r
    generalize t.rams[r] = y at hxy ⊢
    induction hxy with
    | refl => exact hx
    | tail _ m ih => exact hm m ih
  · exact hw hwr hs r
  · exact hp hpu estop r

/-- Settles O51: each move of a RAM record keeps the valve laws, and at rest the command is 0 and the lines are low. -/
theorem everyStepKeepsTheValveLaws : Obligations.EveryStepKeepsTheValveLaws := by
  intro s t hs h
  have ht := step_keeps_rams RamMove.valveSafe PwmWritten.valveSafe powerOn_valveSafe ((valveLaws_iff s).mp hs) h
  obtain ⟨hv, hc⟩ := (valveLaws_iff t).mpr ht
  refine ⟨hv, hc, fun r hna => ⟨?_, ?_, ((ht r).rest hna).1⟩⟩
  · simpa [valveEnable] using fun _ => hna
  · simpa [dumpLine] using fun _ => hna

/-! ## The force bounds of one ram -/

/-- What BoundsLaw says of one ram. -/
structure Ram.BoundsSafe (x : Ram) : Prop where
  force : x.fsForce ≠ 0 →
    -(x.fsForce : Int) ≤ x.fMin ∧ x.fMin < x.fMax ∧ x.fMax ≤ x.fsForce ∧ x.slewMax ≤ x.fsForce
  stroke : -(x.fsStroke : Int) ≤ x.strokeMin ∧ x.strokeMin < x.strokeMax ∧ x.strokeMax ≤ x.fsStroke
  setpoint : x.state = .active → x.fsForce ≠ 0 ∧ x.fMin ≤ x.setpoint ∧ x.setpoint ≤ x.fMax

theorem boundsLaw_iff (s : State) : BoundsLaw s ↔ ∀ r : Fin 8, (s.rams[r]).BoundsSafe :=
  ⟨fun h r => ⟨(h r).1, (h r).2.1, (h r).2.2⟩, fun h r => ⟨(h r).force, (h r).stroke, (h r).setpoint⟩⟩

/-- The relations of R29 as propositions. -/
theorem related_iff (x : Ram) :
    x.related = true ↔
      (x.fsForce ≠ 0 →
        -(x.fsForce : Int) ≤ x.fMin ∧ x.fMin < x.fMax ∧ x.fMax ≤ x.fsForce ∧ x.slewMax ≤ x.fsForce) ∧
      (-(x.fsStroke : Int) ≤ x.strokeMin ∧ x.strokeMin < x.strokeMax ∧ x.strokeMax ≤ x.fsStroke) ∧
      (x.state = .active → x.fMin ≤ x.setpoint ∧ x.setpoint ≤ x.fMax) := by
  simp [Ram.related, or_iff_not_imp_left, and_assoc]

/-- The force chain moves the setpoint within its bounds (R52, R53). -/
theorem Ram.BoundsSafe.chain {x : Ram} (h : x.BoundsSafe) (ha : x.state = .active) (gN : Int) (derate pwm : Nat) :
    (x.chain gN derate pwm).BoundsSafe where
  force := h.force
  stroke := h.stroke
  setpoint _ := by
    obtain ⟨hf, hsp⟩ := h.setpoint ha
    obtain ⟨-, hlt, -⟩ := h.force hf
    exact ⟨hf, slewed_mem _ hsp ⟨le_limitTo hlt.le _, limitTo_le hlt.le _⟩⟩

/-- Every move of a RAM record keeps its bounds. -/
theorem RamMove.boundsSafe {pwm : Nat} {x y : Ram} (m : RamMove pwm x y) (h : x.BoundsSafe) : y.BoundsSafe := by
  cases m with
  | trip cause _ => exact ⟨h.force, h.stroke, nofun⟩
  | convert => exact ⟨h.force, h.stroke, h.setpoint⟩
  | countCoil _ => exact ⟨h.force, h.stroke, h.setpoint⟩
  | chain gN derate ha =>
    have hc := h.chain ha gN derate pwm
    exact ⟨hc.force, hc.stroke, hc.setpoint⟩
  | pulse => exact ⟨h.force, h.stroke, h.setpoint⟩
  | start hf =>
    obtain ⟨-, hlt, -⟩ := h.force hf
    exact ⟨h.force, h.stroke, fun _ => ⟨hf, le_limitTo hlt.le _, limitTo_le hlt.le _⟩⟩
  | stop cause => exact ⟨h.force, h.stroke, nofun⟩
  | clear _ => exact ⟨h.force, h.stroke, nofun⟩
  | write pairs hn hr =>
    obtain ⟨hforce, hstroke, hset⟩ := (related_iff _).mp hr
    refine ⟨hforce, hstroke, fun ha => ⟨?_, hset ha⟩⟩
    have hst : (putAll Ram.put pairs x).state = x.state :=
      putAll_invariant (P := fun y : Ram => y.state = x.state) (fun p _ y hy => by
        rw [← hy]
        unfold Ram.put
        split <;> rfl) rfl
    have hx : x.state = .active := hst ▸ ha
    have hfs : (putAll Ram.put pairs x).fsForce = x.fsForce :=
      putAll_invariant (P := fun y : Ram => y.fsForce = x.fsForce) (fun p hp y hy => by
        have h5 := hn hx p hp
        rw [← hy]
        unfold Ram.put
        split <;> simp_all) rfl
    rw [hfs]
    exact (h.setpoint hx).1

theorem PwmWritten.boundsSafe {s t : State} (hw : PwmWritten s t) (h : ∀ r : Fin 8, (s.rams[r]).BoundsSafe)
    (r : Fin 8) : (t.rams[r]).BoundsSafe := by
  obtain ⟨-, hr⟩ := hw r
  obtain ⟨hf, hs, hp⟩ := h r
  rw [hr]
  exact ⟨hf, hs, hp⟩

theorem powerOn_boundsSafe (hpu : HpuLevel) (estop : EstopLevel) (r : Fin 8) :
    ((State.powerOn hpu estop).rams[r]).BoundsSafe := by
  have h : (State.powerOn hpu estop).rams[r] = {} := by simp [State.powerOn]
  rw [h]
  exact ⟨nofun, by decide, nofun⟩

/-- Settles O52: each move of a RAM record keeps its relations and an ACTIVE ram's setpoint within its bounds. -/
theorem everyStepKeepsTheForceBounds : Obligations.EveryStepKeepsTheForceBounds := by
  intro s t hs h
  exact (boundsLaw_iff t).mpr
    (step_keeps_rams (P := fun _ x => x.BoundsSafe) RamMove.boundsSafe PwmWritten.boundsSafe powerOn_boundsSafe
      ((boundsLaw_iff s).mp hs) h)

end Sys2Proof.Machine
end

section
/-! Requests in work and their owners' answers; the requests of the ram channels; reset, ticks and pulse periods. -/

namespace Sys2Proof.Machine

/-! ## Events and requests -/

theorem event_out {f : State → State} {s : State} (h : s.inReset = false) : event f s = .next (f s) := by
  simp [event, h]

/-- A request in work is answered by its owner (R172). -/
theorem request_due {c : Instr} {body : State → Response × State} {s : State} (h : Due c s) :
    request c body s = .next (answer (body s).1 (body s).2) := by
  obtain ⟨hr, hw⟩ := h
  simp only [request, event_out hr, takeRequest_inWork _ hw]

/-- A request in work whose owner answers and leaves the state changes the port alone. -/
theorem request_due_idle {c : Instr} {body : State → Response × State} {r : Response} {s : State} (h : Due c s)
    (hb : body s = (r, s)) : request c body s = .next { s with port := answered r s } := by
  rw [request_due h, hb]
  rfl

theorem byte_toNat {n : Nat} (h : n < 256) : (byte n).toNat = n := by
  simp [byte]
  omega

theorem onRam_byte (r : Fin 8) (f : Fin 8 → State → Response × State) (s : State) :
    onRam (byte r.val) f s = f r s := by
  have h : (byte r.val).toNat = r.val := byte_toNat (by omega)
  simp [onRam, h]

theorem onRam_badKey {key : Byte} (h : 8 ≤ key.toNat) (f : Fin 8 → State → Response × State) (s : State) :
    onRam key f s = (refuse .badKey, s) := by
  simp [onRam, show ¬key.toNat < 8 by omega]

/-! ## RAM_START (R34, R35) -/

/-- Conditions 1 to 3 of R34: a sample set since reset, the ram OFF and configured. -/
abbrev StartReady (r : Fin 8) (s : State) : Prop :=
  s.sampled = true ∧ s.rams[r].state = .off ∧ s.rams[r].fsForce ≠ 0

/-- Conditions 4 and 5 of R34: pressure, and no ESTOP. -/
abbrev Pressed (s : State) : Prop := s.hall.hpuReady = .high ∧ s.hall.estop = .clear

/-- Conditions 6 to 8 of R34: the group at rest, the stroke inside its bounds, the load count off both rails. -/
abbrev StartPlaced (r : Fin 8) (s : State) : Prop :=
  (s.groups[s.rams[r].group].state = .idle ∨ s.groups[s.rams[r].group].state = .pause) ∧
    s.rams[r].strokeMin ≤ s.rams[r].stroke ∧ s.rams[r].stroke ≤ s.rams[r].strokeMax ∧
    s.rams[r].loadCount ≠ -32768 ∧ s.rams[r].loadCount ≠ 32767

theorem not_pressed_iff (s : State) : ¬Pressed s ↔ s.hall.hpuReady = .low ∨ s.hall.estop = .asserted := by
  unfold Pressed
  cases s.hall.hpuReady <;> cases s.hall.estop <;> simp

theorem strokeInside_iff (x : Ram) : x.strokeInside = true ↔ x.strokeMin ≤ x.stroke ∧ x.stroke ≤ x.strokeMax := by
  simp [Ram.strokeInside]

theorem atRail_iff (c : Int) : atRail c = true ↔ c = -32768 ∨ c = 32767 := by simp [atRail]

/-- The first of the nine conditions that fails gives the refusal (R34). -/
theorem startRefusal_eq (r : Fin 8) (s : State) :
    startRefusal r s =
      if ¬StartReady r s then some .wrongState
      else if ¬Pressed s then some .noPressure
      else if ¬StartPlaced r s then some .wrongState
      else if 5 ≤ s.groups[s.rams[r].group].severity then some .limitActive
      else none := by
  have hstroke := strokeInside_iff s.rams[r]
  have hrail := atRail_iff s.rams[r].loadCount
  have hpress := not_pressed_iff s
  unfold startRefusal
  simp only
  by_cases hready : StartReady r s
  · obtain ⟨h1, h2, h3⟩ := id hready
    by_cases hp : Pressed s
    · obtain ⟨h4, h5⟩ := id hp
      simp only [h1, h2, h3, h4, h5, StartPlaced]
      grind
    · grind
  · grind

theorem startRequest_refused {r : Fin 8} {s : State} {st : Status} (h : startRefusal r s = some st) :
    startRequest r s = (refuse st, s) := by
  simp [startRequest, h]

/-- RAM_START in work is refused with the first condition that fails, and changes nothing but the port. -/
theorem ramStart_refuses {r : Fin 8} {s : State} {st : Status} (hd : Due (.ramStart (byte r.val)) s)
    (h : startRefusal r s = some st) : Refuses (.ramStart (byte r.val)) st s :=
  request_due_idle hd (by rw [onRam_byte, startRequest_refused h])

/-- RAM_START in work under the nine conditions of R34. -/
theorem ramStart_starts {r : Fin 8} {s : State} (hd : Due (.ramStart (byte r.val)) s)
    (h : startRefusal r s = none) :
    exec (.ramStart (byte r.val)) s =
      .next (answer ok (mark (.ram r) (setRam r (s.rams[r].start (midCompare s)) s))) := by
  have hb : startRequest r s = (ok, mark (.ram r) (setRam r (s.rams[r].start (midCompare s)) s)) := by
    simp [startRequest, h]
  exact (request_due hd).trans (by rw [onRam_byte, hb])

/-- Settles O9, from the conditions of R34 as one decision list. -/
theorem ramStartFollowsItsConditions : Obligations.RamStartFollowsItsConditions := by
  refine ⟨?_, fun s ram hd hk => request_due_idle hd (onRam_badKey hk _ s), ?_⟩
  · intro s r x g hd h1 h2 h3 h4 h5 h6 h7 h8 h9 h10 h11
    have hr : startRefusal r s = none := by
      rw [startRefusal_eq, if_neg (not_not.mpr ⟨h1, h2, h3.ne'⟩), if_neg (not_not.mpr ⟨h4, h5⟩),
        if_neg (not_not.mpr ⟨h6, h7, h8, h9, h10⟩), if_neg h11.not_ge]
    exact ramStart_starts hd hr
  · intro s r x g early pressed placed hd
    refine ⟨fun he => ?_, fun he hp => ?_, fun he hp hl => ?_, fun he hp hl hs => ?_⟩ <;>
      refine ramStart_refuses hd ?_ <;> rw [startRefusal_eq]
    · exact if_pos he
    · rw [if_neg (not_not.mpr he), if_pos hp]
    · rw [if_neg (not_not.mpr he), if_neg (not_not.mpr hp), if_pos hl]
    · rw [if_neg (not_not.mpr he), if_neg (not_not.mpr hp), if_neg (not_not.mpr hl), if_pos hs]

/-! ## RAM_STOP and RAM_CLEAR (R36, R37) -/

theorem stopRequest_active {r : Fin 8} {s : State} (ha : s.rams[r].state = .active) :
    stopRequest r s =
      if s.groups[s.rams[r].group].state = .idle then
        (ok, mark (.ram r) (setRam r { s.rams[r].atRest (midCompare s) with state := .off } s))
      else (refuse .wrongState, s) := by
  simp only [stopRequest, ha]

theorem stopRequest_off {r : Fin 8} {s : State} (h : s.rams[r].state = .off) : stopRequest r s = (ok, s) := by
  simp only [stopRequest, h]

theorem stopRequest_tripped {r : Fin 8} {s : State} (h : s.rams[r].state = .tripped) :
    stopRequest r s = (refuse .wrongState, s) := by
  simp only [stopRequest, h]

theorem clearRequest_tripped {r : Fin 8} {s : State} (h : s.rams[r].state = .tripped) :
    clearRequest r s = (ok, mark (.ram r) (setRam r { s.rams[r] with state := .off, tripCause := .none } s)) := by
  simp only [clearRequest, h]

theorem clearRequest_other {r : Fin 8} {s : State} (h : s.rams[r].state ≠ .tripped) :
    clearRequest r s = (refuse .wrongState, s) := by
  unfold clearRequest
  simp only
  split
  next ht => exact absurd ht h
  all_goals rfl

/-- The lines of a ram that is not ACTIVE are low (R31, R33). -/
theorem lines_low {r : Fin 8} {s : State} (h : s.rams[r].state ≠ .active) :
    valveEnable r s = false ∧ dumpLine r s = false :=
  ⟨by simpa [valveEnable] using fun _ => h, by simpa [dumpLine] using fun _ => h⟩

/-- Settles O10, by the state of the ram and of its group. -/
theorem ramStopAndRamClearReturnToOff : Obligations.RamStopAndRamClearReturnToOff := by
  refine ⟨⟨fun s ram hd hk => request_due_idle hd (onRam_badKey hk _ s), ?_⟩,
    ⟨fun s ram hd hk => request_due_idle hd (onRam_badKey hk _ s), ?_⟩, fun s r h => lines_low h⟩
  · intro s r x hd
    refine ⟨fun ha hi => ?_, fun ha hi => ?_, fun ho => ?_, fun ht => ?_⟩
    · exact (request_due hd).trans (by rw [onRam_byte, stopRequest_active ha, if_pos hi]; rfl)
    · exact request_due_idle hd (by rw [onRam_byte, stopRequest_active ha, if_neg hi])
    · exact request_due_idle hd (by rw [onRam_byte, stopRequest_off ho])
    · exact request_due_idle hd (by rw [onRam_byte, stopRequest_tripped ht])
  · intro s r hd
    refine ⟨fun ht => ?_, fun hn => ?_⟩
    · exact (request_due hd).trans (by rw [onRam_byte, clearRequest_tripped ht]; rfl)
    · exact request_due_idle hd (by rw [onRam_byte, clearRequest_other hn])

/-! ## Reset (R33, R174, R188) -/

theorem event_inReset {f : State → State} {s : State} (h : s.inReset = true) : event f s = .next s := by
  simp [event, h]

/-- While RST is low no command but the release of reset changes anything (assumption log 2). -/
theorem exec_inReset {c : Instr} {s : State} (h : s.inReset = true) (hc : ∀ hpu estop, c ≠ .powerOnReset hpu estop) :
    exec c s = .next s := by
  cases c with
  | resetAssert => exact congrArg Host.Outcome.next (by rw [← h])
  | powerOnReset hpu estop => exact absurd rfl (hc hpu estop)
  | estopRelease => exact event_inReset (f := fun s => { s with hall := { s.hall with estop := .clear } }) h
  | hpuReadyRise => exact event_inReset (f := fun s => { s with hall := { s.hall with hpuReady := .high } }) h
  | _ => exact event_inReset h

theorem busBytes_inReset {s : State} (h : s.inReset = true) : busBytes s = [] := by simp [busBytes, h]

theorem busLevels_inReset {s : State} (h : s.inReset = true) : busLevels s = [] := by
  simp [busLevels, busBytes_inReset h]

theorem lineBytes_inReset {s : State} (h : s.inReset = true) : lineBytes s = [] := by simp [lineBytes, h]

/-- Settles O2: every output is guarded by RST. -/
theorem resetHoldsEveryOutputLow : Obligations.ResetHoldsEveryOutputLow := by
  intro s
  refine ⟨{ s with inReset := true }, rfl, rfl, ?_⟩
  generalize ht : { s with inReset := true } = t
  have h : t.inReset = true := by rw [← ht]
  refine ⟨fun r => ?_, ?_, ?_, fun i => ?_, busBytes_inReset h, fun n half => ?_, lineBytes_inReset h, ?_,
    fun c hc => exec_inReset h hc⟩
  · simp [valveEnable, dumpLine, pulseOutput, h]
  · simp [ready, h]
  · simp [attn, h]
  · simp [sdoByte, h]
  · simp [sclReleased, sdaReleased, clockBits, busLevels_inReset h, h]
  · simp [alineDominant, lineBytes_inReset h]

/-! ## Ticks and pulse periods (R25, R26, R31 to R33) -/

theorem controlTick_eq (s : State) :
    controlTick s =
      { s with
        clk := max s.clk (20000 * (s.ticks + 1))
        ticks := s.ticks + 1
        scanEnds := some (20000 * (s.ticks + 1) + 40 * (s.hall.scanDelayUs + 28 * (s.hall.settleUs + 3)))
        round :=
          { s.round with
            intervalCount := if s.plan.source = .timed then s.round.intervalCount - 1 else s.round.intervalCount
            delayCount := if s.plan.roundState = .delay then s.round.delayCount - 1 else s.round.delayCount
            restFlag := if s.plan.roundState = .idle then false else s.round.restFlag
            cyclicDue :=
              decide (s.plan.roundState = .idle ∧ s.round.restFlag = false ∧ s.plan.mode = .cyclic ∧
                s.plan.armed = true) }
        port := { s.port with phase := if s.port.phase = .starting then .idle else s.port.phase } } := by
  have hc : (s.plan.roundState == .idle && !s.round.restFlag && s.plan.mode == .cyclic && s.plan.armed) =
      decide (s.plan.roundState = .idle ∧ s.round.restFlag = false ∧ s.plan.mode = .cyclic ∧ s.plan.armed = true) := by
    rw [Bool.eq_iff_iff]
    simp [and_assoc]
  have hp : (if s.port.phase = .starting then { s.port with phase := .idle } else s.port) =
      { s.port with phase := if s.port.phase = .starting then .idle else s.port.phase } := by
    split <;> rfl
  simp only [controlTick, tickRound, hc, hp]
  rfl

theorem pulsePeriodStart_rams (s : State) (r : Fin 8) :
    (pulsePeriodStart s).rams[r] = { s.rams[r] with activeCompare := s.rams[r].shadowCompare } := by
  simp [pulsePeriodStart]

/-- A pulse period that starts on time starts at count 0 (R32). -/
theorem pulseCounter_pulsePeriodStart {s : State} (h : s.clk ≤ s.pulseStart + s.hall.pwmPeriod) :
    pulseCounter (pulsePeriodStart s) = 0 := by
  simp [pulseCounter, pulsePeriodStart, h]

/-- Settles O4. -/
theorem ticksAndPeriodsKeepTime : Obligations.TicksAndPeriodsKeepTime := by
  refine ⟨fun s h => ?_, fun s h => ?_, fun s r => ⟨?_, rfl, fun hp => ?_, fun _ h0 => ?_, fun hr hp hc => ?_⟩⟩
  · exact (event_out h).trans (congrArg _ (controlTick_eq s))
  · refine ⟨pulsePeriodStart s, event_out h, rfl, pulsePeriodStart_rams s, fun hc => ?_⟩
    have h0 := pulseCounter_pulsePeriodStart hc
    have hi : (pulsePeriodStart s).inReset = false := h
    refine ⟨h0, fun r => ?_⟩
    unfold pulseOutput
    rw [h0, hi, pulsePeriodStart_rams]
    simp
  · simp [valveEnable]
  · unfold pulseCounter
    omega
  · simp only [pulseOutput, h0, Nat.not_lt_zero, decide_false, Bool.and_false]
  · simp only [pulseOutput, pulseCounter, hr, hc, Bool.not_false, Bool.true_and, decide_eq_true_eq]
    omega

/-! ## The laws at the release of reset -/

section PowerOn

variable (hpu : HpuLevel) (estop : EstopLevel)

theorem powerOn_ram (r : Fin 8) : (State.powerOn hpu estop).rams[r] = {} := by simp [State.powerOn]

theorem powerOn_group (g : Fin 4) : (State.powerOn hpu estop).groups[g] = {} := by simp [State.powerOn]

theorem powerOn_gauge (k : Fin 48) : (State.powerOn hpu estop).gauges[k] = {} := by simp [State.powerOn]

theorem powerOn_apod (p : Fin 16) : (State.powerOn hpu estop).apods[p] = {} := by simp [State.powerOn]

theorem powerOn_crack (c : Fin 32) : (State.powerOn hpu estop).cracks[c] = none := by simp [State.powerOn]

theorem powerOn_limit (i : Fin 24) : (State.powerOn hpu estop).limits[i] = none := by simp [State.powerOn]

theorem powerOn_engagedOn (g : Fin 4) : engagedOn g (State.powerOn hpu estop) = [] := by
  simp [engagedOn, State.powerOn]

theorem powerOn_anyTripped (g : Fin 4) : anyTripped g (State.powerOn hpu estop) = false := by
  simp [anyTripped, State.powerOn]

/-- No group runs after reset, so its program is subject to the rules of IDLE. -/
theorem powerOn_programLaw : ProgramLaw (State.powerOn hpu estop) := by
  intro g
  simp only [powerOn_group]
  simp

theorem powerOn_limitLaws :
    LimitLaw (State.powerOn hpu estop) ∧ SeverityLaw (State.powerOn hpu estop) ∧
      EngagedLaw (State.powerOn hpu estop) := by
  refine ⟨fun i l h => ?_, fun g => ?_, fun g => ?_⟩
  · rw [powerOn_limit] at h
    cases h
  · simp only [powerOn_group, powerOn_engagedOn]
    exact ⟨rfl, rfl⟩
  · simp only [powerOn_group]
    simp

theorem powerOn_gaugeLaw : GaugeLaw (State.powerOn hpu estop) := by
  intro k
  simp only [powerOn_gauge]
  simp

theorem powerOn_podLaws : PodLaw (State.powerOn hpu estop) ∧ HitLaw (State.powerOn hpu estop) := by
  refine ⟨⟨fun p => ?_, fun p q _ h => ?_⟩, fun p => ?_⟩
  · simp only [powerOn_apod]
    simp
  · rw [powerOn_apod] at h
    cases h
  · simp only [powerOn_apod]
    simp

theorem powerOn_crackLaws : CrackLaw (State.powerOn hpu estop) ∧ RefLaw (State.powerOn hpu estop) := by
  constructor <;> intro c y h <;> rw [powerOn_crack] at h <;> cases h

end PowerOn

/-- Settles O60: nothing is configured, running or in work at the release of reset. -/
theorem everyLawHoldsAtReset : Obligations.EveryLawHoldsAtReset := by
  refine ⟨⟨.low, .clear, rfl⟩, fun hpu estop => ?_⟩
  obtain ⟨hv, hc⟩ := (valveLaws_iff _).mpr (powerOn_valveSafe hpu estop)
  obtain ⟨hl, hs, he⟩ := powerOn_limitLaws hpu estop
  obtain ⟨hp, hh⟩ := powerOn_podLaws hpu estop
  obtain ⟨hk, hr⟩ := powerOn_crackLaws hpu estop
  refine ⟨hv, hc, (boundsLaw_iff _).mpr (powerOn_boundsSafe hpu estop), fun r => ?_, fun g h => ?_, fun g h => ?_,
    powerOn_programLaw hpu estop, hl, hs, he, powerOn_gaugeLaw hpu estop, hp, hh, hk, hr, fun h => ?_, ?_⟩
  · simp only [powerOn_ram]
    simp
  · rw [powerOn_anyTripped] at h
    cases h
  · rw [powerOn_group] at h
    exact absurd rfl h
  · exact absurd rfl h
  · simp [PortLaw, State.powerOn]

end Sys2Proof.Machine
end

section
/-! The sample set: what one ram channel makes of its counts, what its neighbours' visits leave of it, and the frame of the
whole event. -/

namespace Sys2Proof.Machine

/-! ## One visit among others -/

/-- A visit of every index is the visits before index i, the visit of i, and the visits after it. -/
theorem forAll_around {n : Nat} {f : Fin n → State → State} {R : State → State → Prop} (hr : ∀ s, R s s)
    (ht : ∀ a b c, R a b → R b c → R a c) (i : Fin n) (h : ∀ j, j ≠ i → ∀ t, R t (f j t)) (s : State) :
    ∃ a, R s a ∧ R (f i a) (forAll f s) := by
  obtain ⟨before, after, hl⟩ := List.append_of_mem (List.mem_finRange i)
  have hd := List.nodup_finRange n
  rw [hl, List.nodup_append, List.nodup_cons] at hd
  obtain ⟨-, ⟨hafter, -⟩, hbefore⟩ := hd
  have hfold : ∀ (l : List (Fin n)), (∀ j ∈ l, j ≠ i) → ∀ t, R t (l.foldl (fun t j => f j t) t) := by
    intro l
    induction l with
    | nil => exact fun _ t => hr t
    | cons j l ih =>
      intro hj t
      exact ht _ _ _ (h j (hj j List.mem_cons_self) t) (ih (fun k hk => hj k (List.mem_cons_of_mem _ hk)) _)
  refine ⟨before.foldl (fun t j => f j t) s, hfold before (fun j hj e => ?_) s, ?_⟩
  · exact hbefore j hj i List.mem_cons_self e
  · unfold forAll
    rw [hl, List.foldl_append, List.foldl_cons]
    exact hfold after (fun j hj e => hafter (e ▸ hj)) _

/-! ## What a trip leaves of rams and groups -/

theorem rams_groupTrip (g : Fin 4) (s : State) : (groupTrip g s).rams = s.rams := by
  unfold groupTrip unloadGroup
  repeat' split
  all_goals simp

theorem marks_ram_groupTrip (g : Fin 4) (s : State) : (groupTrip g s).marks.ram = s.marks.ram := by
  have hp (x : Group) : (putGroup g x s).marks.ram = s.marks.ram := markIf_marks_ram (by simp) _ _
  unfold groupTrip unloadGroup
  repeat' split
  all_goals simp [hp]

theorem tripRam_active {r : Fin 8} {s : State} (h : s.rams[r].state = .active) (cause : TripCause) :
    tripRam cause r s =
      groupTrip s.rams[r].group
        (mark (.ram r) (setRam r (s.rams[r].trip cause (midOf s.hall.pwmPeriod)) s)) := if_pos h

theorem tripRam_other {r : Fin 8} {s : State} (h : s.rams[r].state ≠ .active) (cause : TripCause) :
    tripRam cause r s = s := if_neg h

theorem rams_tripRam (cause : TripCause) (r q : Fin 8) (s : State) :
    (tripRam cause r s).rams[q] =
      if r = q ∧ s.rams[r].state = .active then s.rams[r].trip cause (midOf s.hall.pwmPeriod) else s.rams[q] := by
  by_cases ha : s.rams[r].state = .active
  · rw [tripRam_active ha, rams_groupTrip, mark_rams, setRam_rams, getElem_set_fin]
    simp only [ha, and_true]
  · rw [tripRam_other ha, if_neg (fun h => ha h.2)]

theorem marks_ram_tripRam (cause : TripCause) (r q : Fin 8) (s : State) :
    (tripRam cause r s).marks.ram[q] =
      if r = q ∧ s.rams[r].state = .active then true else s.marks.ram[q] := by
  by_cases ha : s.rams[r].state = .active
  · rw [tripRam_active ha, marks_ram_groupTrip, mark_marks, setRam_marks, Marks.put, getElem_set_fin]
    simp only [ha, and_true]
  · rw [tripRam_other ha, if_neg (fun h => ha h.2)]

theorem hall_tripRam (cause : TripCause) (r : Fin 8) (s : State) : (tripRam cause r s).hall = s.hall := by
  have h := protects_tripRam cause r s
  unfold Protects at h
  rw [h]

/-- Some ram of a group that is ACTIVE shows in anyActive. -/
theorem anyActive_of_active {r : Fin 8} {s : State} (h : s.rams[r].state = .active) :
    anyActive s.rams[r].group s = true :=
  List.any_eq_true.mpr ⟨r, List.mem_finRange r, by simp [h, - Fin.getElem_fin]⟩

/-- A group that still has an ACTIVE ram keeps its command and derate factor through a trip (R18, R22). -/
theorem groupTrip_keeps_command {g h : Fin 4} {s : State} (ha : anyActive h s = true) :
    (groupTrip g s).groups[h].command = s.groups[h].command ∧
      (groupTrip g s).groups[h].derate = s.groups[h].derate := by
  by_cases hg : g = h
  · subst hg
    have hu : (unloadGroup g s).groups[g].command = s.groups[g].command ∧
        (unloadGroup g s).groups[g].derate = s.groups[g].derate := by
      rw [unloadGroup, if_pos ha, putGroup_groups, getElem_set_fin, if_pos rfl]
      exact ⟨rfl, rfl⟩
    unfold groupTrip
    split
    any_goals exact hu
    · rw [if_pos ha]
      exact ⟨rfl, rfl⟩
    · exact ⟨rfl, rfl⟩
  · have hp (x : Group) : (putGroup g x s).groups[h] = s.groups[h] := by
      rw [putGroup_groups, getElem_set_fin, if_neg hg]
    unfold groupTrip unloadGroup
    repeat' split
    all_goals simp only [hp, and_self]

/-! ## One ram channel -/

/-- A RAM record after its three counts of a sample set, with its group's command, its derate factor and the pulse period:
converted, and while ACTIVE driven, or tripped by the first check that fails (R30, R39). -/
def Ram.afterCounts (cLoad cStroke cCoil gN : Int) (derate pwm : Nat) (x : Ram) : Ram :=
  let x := x.convert cLoad cStroke cCoil
  let y := x.countCoil
  let z := (y.chain gN derate pwm).countSat
  if x.state ≠ .active then x
  else if atRail cLoad then x.trip .input (midOf pwm)
  else if x.strokeInside = false then x.trip .stroke (midOf pwm)
  else if y.coilFault && decide (y.coilPeriods ≤ y.coilCount) then y.trip .coil (midOf pwm)
  else if z.satPeriods < z.satCount then z.trip .saturation (midOf pwm)
  else z

/-- What a visit leaves of ram r, where it is not its own: the record and its mark, the HALL record and, while the ram is
ACTIVE, the command and derate factor of its group. -/
structure Spares (r : Fin 8) (s t : State) : Prop where
  ram : t.rams[r] = s.rams[r]
  mark : t.marks.ram[r] = s.marks.ram[r]
  hall : t.hall = s.hall
  group : s.rams[r].state = .active → ∀ g, s.rams[r].group = g →
    t.groups[g].command = s.groups[g].command ∧ t.groups[g].derate = s.groups[g].derate

namespace Spares

variable {r : Fin 8}

theorem refl (s : State) : Spares r s s := ⟨rfl, rfl, rfl, fun _ _ _ => ⟨rfl, rfl⟩⟩

theorem trans {a b c : State} (h : Spares r a b) (k : Spares r b c) : Spares r a c where
  ram := k.ram.trans h.ram
  mark := k.mark.trans h.mark
  hall := k.hall.trans h.hall
  group ha g hg := by
    obtain ⟨hc, hd⟩ := h.group ha g hg
    obtain ⟨kc, kd⟩ := k.group (h.ram ▸ ha) g (h.ram ▸ hg)
    exact ⟨kc.trans hc, kd.trans hd⟩

theorem setRam {q : Fin 8} (hq : q ≠ r) (x : Ram) (s : State) : Spares r s (setRam q x s) where
  ram := by rw [setRam_rams, getElem_set_fin, if_neg hq]
  mark := rfl
  hall := rfl
  group _ _ _ := ⟨rfl, rfl⟩

theorem tripRam {q : Fin 8} (hq : q ≠ r) (cause : TripCause) (s : State) : Spares r s (tripRam cause q s) where
  ram := by rw [rams_tripRam, if_neg (fun h => hq h.1)]
  mark := by rw [marks_ram_tripRam, if_neg (fun h => hq h.1)]
  hall := hall_tripRam _ _ _
  group ha g hg := by
    by_cases hq' : s.rams[q].state = .active
    · rw [tripRam_active hq']
      refine groupTrip_keeps_command ?_
      generalize hu : Machine.mark (.ram q) (Machine.setRam q _ s) = u
      have hx : u.rams[r] = s.rams[r] := by
        rw [← hu, mark_rams, setRam_rams, getElem_set_fin, if_neg hq]
      subst hg
      rw [← hx]
      exact anyActive_of_active (hx ▸ ha)
    · rw [tripRam_other hq']
      exact ⟨rfl, rfl⟩

theorem takeCounts {q : Fin 8} (hq : q ≠ r) (cLoad cStroke cCoil : Int) (s : State) :
    Spares r s (takeCounts q cLoad cStroke cCoil s) := by
  unfold Machine.takeCounts
  simp only
  split
  · exact setRam hq _ _
  · split
    · exact (setRam hq _ _).trans (tripRam hq _ _)
    · split
      · exact (setRam hq _ _).trans (tripRam hq _ _)
      · split
        · exact ((setRam hq _ _).trans (setRam hq _ _)).trans (tripRam hq _ _)
        · split
          · exact (((setRam hq _ _).trans (setRam hq _ _)).trans (setRam hq _ _)).trans (tripRam hq _ _)
          · exact ((setRam hq _ _).trans (setRam hq _ _)).trans (setRam hq _ _)

theorem takeRam {q : Fin 8} (hq : q ≠ r) (counts : Vector (BitVec 16) 28) (s : State) :
    Spares r s (takeRam counts q s) :=
  takeCounts hq _ _ _ s

end Spares

theorem getElem_setRam_self (r : Fin 8) (x : Ram) (s : State) : (setRam r x s).rams[r] = x := by
  rw [setRam_rams, getElem_set_fin, if_pos rfl]

/-- A trip right after a record was replaced by an ACTIVE one. -/
theorem rams_tripRam_setRam {r : Fin 8} {x : Ram} (ha : x.state = .active) (cause : TripCause) (s : State) :
    (tripRam cause r (setRam r x s)).rams[r] = x.trip cause (midOf s.hall.pwmPeriod) := by
  rw [rams_tripRam, getElem_setRam_self, if_pos ⟨rfl, ha⟩]
  rfl

theorem marks_tripRam_setRam {r : Fin 8} {x : Ram} (ha : x.state = .active) (cause : TripCause) (s : State) :
    (tripRam cause r (setRam r x s)).marks.ram[r] = true := by
  rw [marks_ram_tripRam, getElem_setRam_self, if_pos ⟨rfl, ha⟩]

theorem setRam_setRam (r : Fin 8) (x y : Ram) (s : State) : setRam r y (setRam r x s) = setRam r y s := by
  simp [setRam]

/-- The visit of a ram channel, each stage writing the record once (R30, R39). -/
theorem takeCounts_eq (r : Fin 8) (cLoad cStroke cCoil : Int) (s : State) :
    takeCounts r cLoad cStroke cCoil s =
      let g := s.groups[s.rams[r].group]
      let x := s.rams[r].convert cLoad cStroke cCoil
      let y := x.countCoil
      let z := (y.chain g.newtons g.derate s.hall.pwmPeriod).countSat
      if x.state ≠ .active then setRam r x s
      else if atRail cLoad then tripRam .input r (setRam r x s)
      else if x.strokeInside = false then tripRam .stroke r (setRam r x s)
      else if y.coilFault && decide (y.coilPeriods ≤ y.coilCount) then tripRam .coil r (setRam r y s)
      else if z.satPeriods < z.satCount then tripRam .saturation r (setRam r z s)
      else setRam r z s := by
  unfold takeCounts
  simp only [setRam_setRam, setRam_groups, setRam_hall]
  rfl

/-- A ram channel's own visit: the record it leaves, and the mark of a ram that it trips. -/
theorem takeCounts_self (r : Fin 8) (cLoad cStroke cCoil : Int) (s : State) :
    (takeCounts r cLoad cStroke cCoil s).rams[r] =
        s.rams[r].afterCounts cLoad cStroke cCoil s.groups[s.rams[r].group].newtons
          s.groups[s.rams[r].group].derate s.hall.pwmPeriod ∧
      (s.rams[r].state = .active → (takeCounts r cLoad cStroke cCoil s).rams[r].state = .tripped →
        (takeCounts r cLoad cStroke cCoil s).marks.ram[r] = true) := by
  rw [takeCounts_eq]
  unfold Ram.afterCounts
  simp only
  generalize hg : s.groups[s.rams[r].group] = g
  generalize hx : s.rams[r].convert cLoad cStroke cCoil = x
  generalize hy : x.countCoil = y
  generalize hz : (y.chain g.newtons g.derate s.hall.pwmPeriod).countSat = z
  have hxs : s.rams[r].state = x.state := by rw [← hx]; rfl
  have hys : y.state = x.state := by rw [← hy]; rfl
  have hzs : z.state = y.state := by rw [← hz]; rfl
  split
  next hn => exact ⟨getElem_setRam_self _ _ _, fun ha => absurd (hxs ▸ ha) hn⟩
  next hn =>
    have ha := not_not.mp hn
    have hya := hys.trans ha
    have hza := hzs.trans hya
    split
    · exact ⟨rams_tripRam_setRam ha _ s, fun _ _ => marks_tripRam_setRam ha _ s⟩
    · split
      · exact ⟨rams_tripRam_setRam ha _ s, fun _ _ => marks_tripRam_setRam ha _ s⟩
      · split
        · exact ⟨rams_tripRam_setRam hya _ s, fun _ _ => marks_tripRam_setRam hya _ s⟩
        · split
          · exact ⟨rams_tripRam_setRam hza _ s, fun _ _ => marks_tripRam_setRam hza _ s⟩
          · rw [getElem_setRam_self]
            exact ⟨rfl, fun _ ht => absurd (hza.symm.trans ht) (by decide)⟩

/-! ## The frame of a sample set -/

/-- From s to t, through the group advances and the limits of a sample set: only what the rams, groups, limits, round plan
and crack slots hold differs, with their marks. -/
structure SetFrame (s t : State) : Prop where
  frame : t = { s with
    clk := t.clk, rams := t.rams, groups := t.groups, limits := t.limits, plan := t.plan, round := t.round,
    cracks := t.cracks,
    marks := { s.marks with
      ram := t.marks.ram, group := t.marks.group, plan := t.marks.plan, crack := t.marks.crack,
      limit := t.marks.limit } }
  clock : LatchClock s t

namespace SetFrame

theorem refl (s : State) : SetFrame s s := ⟨rfl, .rfl s⟩

theorem trans {a b c : State} (h : SetFrame a b) (k : SetFrame b c) : SetFrame a c := by
  obtain ⟨hf, hc⟩ := h
  obtain ⟨kf, kc⟩ := k
  exact ⟨by rw [kf, hf], hc.trans kc⟩

theorem of_triggers {s t : State} (h : Triggers s t) : SetFrame s t := by
  refine ⟨?_, h.clock⟩
  rw [h.frame]

/-- The protection path leaves the clock and the round plan. -/
theorem tripPath (cause : TripCause) : TripPath cause SetFrame where
  refl := refl
  trans := trans
  putGroup g x s := by
    unfold putGroup markIf
    simp only
    split <;> exact ⟨rfl, .rfl s⟩
  trip r s _ := ⟨rfl, .rfl s⟩

theorem crackPath : CrackPath SetFrame where
  toTripPath := tripPath .limit
  putLimit i x s := by
    unfold putLimit markIf
    split <;> exact ⟨rfl, .rfl s⟩
  putCrack c x s := by
    unfold putCrack markIf
    split <;> exact ⟨rfl, .rfl s⟩

theorem takeCounts (r : Fin 8) (cLoad cStroke cCoil : Int) (s : State) :
    SetFrame s (takeCounts r cLoad cStroke cCoil s) := by
  have hs (x : Ram) : SetFrame s (setRam r x s) := ⟨rfl, .rfl s⟩
  rw [takeCounts_eq]
  simp only
  split
  · exact hs _
  · split
    · exact (hs _).trans ((tripPath _).tripRam _ _)
    · split
      · exact (hs _).trans ((tripPath _).tripRam _ _)
      · split
        · exact (hs _).trans ((tripPath _).tripRam _ _)
        · split
          · exact (hs _).trans ((tripPath _).tripRam _ _)
          · exact hs _

theorem takeRam (counts : Vector (BitVec 16) 28) (r : Fin 8) (s : State) : SetFrame s (takeRam counts r s) :=
  takeCounts r _ _ _ s

theorem advanceGroup (g : Fin 4) (s : State) : SetFrame s (advanceGroup g s) :=
  crackPath.advanceGroup of_triggers g s

end SetFrame

/-! ## The sample set -/

/-- The state in which a sample set finds its rams: the clock at the scan's end (R27). -/
def atScanEnd (e : Nat) (s : State) : State := { passTo e s with scanEnds := none }

theorem sampleSet_eq {s : State} {e : Nat} (h : s.scanEnds = some e) (counts : Vector (BitVec 16) 28) :
    sampleSet counts s =
      evalWhere Limit.isPlant
        (forAll advanceGroup (takeAux counts (forAll (takeRam counts) (atScanEnd e s)))) := by
  unfold sampleSet
  rw [h]
  rfl

theorem afterCounts_of_not_active {x : Ram} (h : x.state ≠ .active) (cLoad cStroke cCoil gN : Int)
    (derate pwm : Nat) : x.afterCounts cLoad cStroke cCoil gN derate pwm = x.convert cLoad cStroke cCoil := if_pos h

/-- A RAM record after its counts of a whole set, with its group as it stood before the set. -/
def afterSet (counts : Vector (BitVec 16) 28) (r : Fin 8) (s : State) : Ram :=
  (s.rams[r]).afterCounts (counts[3 * r.val]).toInt (counts[3 * r.val + 1]).toInt (counts[3 * r.val + 2]).toInt
    (s.groups[s.rams[r].group]).newtons (s.groups[s.rams[r].group]).derate s.hall.pwmPeriod

/-- After all rams have taken their counts, each is what its own visit makes of it, from its group as it stood (R27). -/
theorem takeRams_ram (counts : Vector (BitVec 16) 28) (r : Fin 8) (s : State) :
    (forAll (takeRam counts) s).rams[r] = afterSet counts r s ∧
      (s.rams[r].state = .active → (afterSet counts r s).state = .tripped →
        (forAll (takeRam counts) s).marks.ram[r] = true) := by
  obtain ⟨a, hb, ha⟩ := forAll_around Spares.refl (fun _ _ _ => Spares.trans) r
    (fun _ hq => Spares.takeRam hq counts) s
  obtain ⟨hram, hmark⟩ := takeCounts_self r (countAt counts ⟨3 * r.val, by omega⟩)
    (countAt counts ⟨3 * r.val + 1, by omega⟩) (countAt counts ⟨3 * r.val + 2, by omega⟩) a
  rw [← takeRam] at hram hmark
  have heq : (forAll (takeRam counts) s).rams[r] = afterSet counts r s := by
    refine ha.ram.trans (hram.trans ?_)
    by_cases hact : s.rams[r].state = .active
    · obtain ⟨hc, hd⟩ := hb.group hact _ rfl
      simp only [hb.ram, Group.newtons, hc, hd, hb.hall]
      rfl
    · rw [afterCounts_of_not_active (hb.ram ▸ hact), hb.ram]
      exact (afterCounts_of_not_active hact _ _ _ _ _ _).symm
  refine ⟨heq, fun hact htr => ?_⟩
  rw [← heq, ha.ram] at htr
  rw [ha.mark]
  exact hmark (hb.ram ▸ hact) htr

/-- What a sample set leaves of a ram: the record that its counts make of it, or that record tripped by a limit; a ram that
it trips carries its mark (R27, R44). -/
theorem sampleSet_ram {s : State} {e : Nat} (h : s.scanEnds = some e) (counts : Vector (BitVec 16) 28) (r : Fin 8) :
    ((sampleSet counts s).rams[r] = afterSet counts r s ∧
        (s.rams[r].state = .active → (afterSet counts r s).state = .tripped →
          (sampleSet counts s).marks.ram[r] = true)) ∨
      ((afterSet counts r s).state = .active ∧
        (sampleSet counts s).rams[r] = (afterSet counts r s).trip .limit (midOf s.hall.pwmPeriod) ∧
        (sampleSet counts s).marks.ram[r] = true) := by
  rw [sampleSet_eq h]
  obtain ⟨hram, hmark⟩ := takeRams_ram counts r (atScanEnd e s)
  have hall : (forAll (takeRam counts) (atScanEnd e s)).hall = s.hall := by
    rw [((SetFrame.tripPath .none).forAll (SetFrame.takeRam counts) (atScanEnd e s)).frame]
    rfl
  generalize forAll (takeRam counts) (atScanEnd e s) = a at *
  have ha : TripsBy .limit a (takeAux counts a) := .of_eq rfl rfl rfl
  obtain ⟨-, ht⟩ := (ha.trans (tripsBy_crackPath.forAll tripsBy_advanceGroup _)).trans
    (tripsBy_crackPath.evalWhere Limit.isPlant _)
  rcases ht r with ⟨hx, hm⟩ | ⟨hact, hx, hm⟩
  · exact .inl ⟨hx.trans hram, fun h1 h2 => hm.trans (hmark h1 h2)⟩
  · refine .inr ⟨hram ▸ hact, ?_, hm⟩
    rw [hx, hram, midCompare_eq, hall]
    rfl

/-- Whatever becomes of a ram at its counts, its three converted fields are those of the counts (R30, R48). -/
theorem afterCounts_converts (x : Ram) (cLoad cStroke cCoil gN : Int) (derate pwm : Nat) :
    let y := x.afterCounts cLoad cStroke cCoil gN derate pwm
    y.force = roundDiv ((cLoad - x.loadZero) * x.fsForce) 32767 ∧
      y.stroke = roundDiv ((cStroke - x.strokeZero) * x.fsStroke) 32767 ∧
      y.coilMa = roundDiv (cCoil * x.coilFsMa) 32767 := by
  unfold Ram.afterCounts
  simp only
  split_ifs <;> exact ⟨rfl, rfl, rfl⟩

end Sys2Proof.Machine
end

section
/-! The statements about a sample set: what it converts, how it drives a ram that stays ACTIVE, and which check trips one. -/

namespace Sys2Proof.Machine

/-! ## Conversion and frame (R27, R30, R48) -/

theorem takeAux_eq (counts : Vector (BitVec 16) 28) (s : State) :
    takeAux counts s =
      { s with
        sampled := true
        hall :=
          { s.hall with
            aux := #v[(counts[24]).toInt, (counts[25]).toInt, (counts[26]).toInt, (counts[27]).toInt] } } := by
  have h : (Vector.ofFn fun (i : Fin 4) => countAt counts ⟨24 + i.val, by omega⟩) =
      #v[(counts[24]).toInt, (counts[25]).toInt, (counts[26]).toInt, (counts[27]).toInt] := by
    ext i hi
    interval_cases i <;> simp [countAt]
  unfold takeAux
  rw [h]

/-- The frame of a whole sample set, and its clock. -/
theorem sampleSet_frame {s : State} {e : Nat} (h : s.scanEnds = some e) (counts : Vector (BitVec 16) 28) :
    ∃ a, SetFrame (atScanEnd e s) a ∧ SetFrame (takeAux counts a) (sampleSet counts s) := by
  rw [sampleSet_eq h]
  exact ⟨_, (SetFrame.tripPath .none).forAll (SetFrame.takeRam counts) _,
    ((SetFrame.tripPath .none).forAll SetFrame.advanceGroup _).trans (SetFrame.crackPath.evalWhere _ _)⟩

theorem afterSet_of_not_active {counts : Vector (BitVec 16) 28} {r : Fin 8} {s : State}
    (h : s.rams[r].state ≠ .active) :
    afterSet counts r s =
      s.rams[r].convert (counts[3 * r.val]).toInt (counts[3 * r.val + 1]).toInt (counts[3 * r.val + 2]).toInt :=
  afterCounts_of_not_active h _ _ _ _ _ _

/-- Settles O5: conversion comes first in every visit, and what follows touches none of the three converted fields. -/
theorem sampleSetConvertsEveryInput : Obligations.SampleSetConvertsEveryInput := by
  intro counts s e hr he
  obtain ⟨a, ha, ht⟩ := sampleSet_frame he counts
  have hram := sampleSet_ram he counts
  refine ⟨sampleSet counts s, event_out hr, ?_, ?_, fun r => ?_⟩
  · generalize sampleSet counts s = t at ht
    refine ht.frame.trans ?_
    rw [ha.frame, takeAux_eq]
    rfl
  · have haux : LatchClock a (takeAux counts a) := .inl ⟨rfl, rfl, .inr rfl⟩
    rcases (ha.clock.trans haux).trans ht.clock with ⟨hc, -, -⟩ | hc
    · exact .inl hc
    · exact .inr hc
  · obtain ⟨hf, hs, hc⟩ := afterCounts_converts s.rams[r] (counts[3 * r.val]).toInt (counts[3 * r.val + 1]).toInt
      (counts[3 * r.val + 2]).toInt (s.groups[s.rams[r].group]).newtons (s.groups[s.rams[r].group]).derate
      s.hall.pwmPeriod
    rcases hram r with ⟨hx, -⟩ | ⟨hact, hx, -⟩ <;> rw [hx]
    · refine ⟨hf, hs, hc, fun hn => ?_⟩
      rw [afterSet_of_not_active hn]
      rfl
    · refine ⟨hf, hs, hc, fun hn => ?_⟩
      rw [afterSet_of_not_active hn] at hact
      exact absurd hact hn

/-! ## The force chain (R49 to R58) -/

theorem slewed_eq (old d : Int) (n : Nat) : slewed old d n = max (old - n) (min (old + n) d) := by
  unfold slewed
  split_ifs <;> omega

theorem limitTo_eq {lo hi : Int} (h : lo ≤ hi) (v : Int) : limitTo lo hi v = max lo (min hi v) := by
  unfold limitTo
  split_ifs <;> omega

theorem full_iff (u : Int) : u.natAbs = 10000 ↔ u = 10000 ∨ u = -10000 := by omega

theorem beyondSlew_iff (x : Int) (n : Nat) : n < x.natAbs ↔ x < -n ∨ (n : Int) < x := by omega

/-- The integrator holds while its command is beyond full opening and the error would wind it further (R56). -/
theorem antiWindup_eq (raw err held next : Int) :
    (if 10000 < raw then (if err ≤ 0 then next else held)
      else if raw < -10000 then (if 0 ≤ err then next else held)
      else next) =
      if (10000 < raw ∧ 0 < err) ∨ (raw < -10000 ∧ err < 0) then held else next := by
  split_ifs <;> omega

/-- The force chain with each limit as the greater of a lower bound and the lesser of an upper one. -/
theorem chain_eq (x : Ram) (gN : Int) (derate pwm : Nat) :
    x.chain gN derate pwm =
      let derated := x.demand gN derate
      let clampedTo := limitTo x.fMin x.fMax derated
      let setpoint := max (x.setpoint - x.slewMax) (min (x.setpoint + x.slewMax) clampedTo)
      let err := setpoint - x.force
      let candidate := max (-167772160000) (min 167772160000 (x.integrator + err * x.ki))
      let raw := roundDiv (err * x.kp) (2 ^ 20) + roundDiv candidate (2 ^ 24)
      let u := max (-10000) (min 10000 raw)
      { x with
        setpoint := setpoint
        u := u
        trackError := err.natAbs
        clamped := decide (clampedTo ≠ derated)
        slewLimited :=
          decide (clampedTo - x.setpoint < -x.slewMax ∨ (x.slewMax : Int) < clampedTo - x.setpoint)
        saturated := decide (u = 10000 ∨ u = -10000)
        integrator := if (10000 < raw ∧ 0 < err) ∨ (raw < -10000 ∧ err < 0) then x.integrator else candidate
        shadowCompare := pulseCompare pwm u } := by
  have hu (v : Int) : limitTo (-10000) 10000 v = max (-10000) (min 10000 v) := limitTo_eq (by omega) v
  have hi (v : Int) : limitTo (-integratorTop) integratorTop v = max (-167772160000) (min 167772160000 v) :=
    limitTo_eq (by decide) v
  have hb (m n : Int) : (m != n) = decide (m ≠ n) := by simp [bne, Bool.beq_eq_decide_eq]
  have hn (m : Int) : (m.natAbs == 10000) = decide (m = 10000 ∨ m = -10000) := by
    rw [Bool.eq_iff_iff, beq_iff_eq, decide_eq_true_eq, full_iff]
  simp only [Ram.chain, slewed_eq, hu, hi, hb, hn, antiWindup_eq, beyondSlew_iff]

/-- A ram that is ACTIVE after its counts has passed every check (R39). -/
theorem afterCounts_active {x : Ram} {cLoad cStroke cCoil gN : Int} {derate pwm : Nat} (hx : x.state = .active)
    (h : (x.afterCounts cLoad cStroke cCoil gN derate pwm).state = .active) :
    x.afterCounts cLoad cStroke cCoil gN derate pwm =
      (((x.convert cLoad cStroke cCoil).countCoil).chain gN derate pwm).countSat := by
  unfold Ram.afterCounts at h ⊢
  simp only at h ⊢
  split_ifs at h ⊢ with hstate
  · exact absurd hx hstate
  · cases h
  · cases h
  · cases h
  · cases h
  · rfl

/-- Settles O6: a ram ACTIVE after the sample set has run the whole chain, and no limit has touched it. -/
theorem forceChainDrivesAnActiveRam : Obligations.ForceChainDrivesAnActiveRam := by
  intro counts s t e r hr he h hs ht
  have hts : t = sampleSet counts s := by
    have := (event_out (f := sampleSet counts) hr).symm.trans h
    exact (Host.Outcome.next.inj this).symm
  subst hts
  rcases sampleSet_ram he counts r with ⟨hx, -⟩ | ⟨-, hx, -⟩
  · rw [hx] at ht ⊢
    have hc := afterCounts_active hs ht
    have hsat (z : Ram) : z.countSat =
        { z with satCount := if z.u = 10000 ∨ z.u = -10000 then z.satCount + 1 else 0 } := by
      simp only [Ram.countSat, full_iff]
    have hcoil (z : Ram) : z.countCoil =
        { z with coilCount :=
            if 2000 ≤ z.u.natAbs ∧ z.coilMa.natAbs * 40000 < z.u.natAbs * z.coilFsMa then z.coilCount + 1 else 0 } := by
      simp only [Ram.countCoil, Ram.coilFault, Bool.and_eq_true, decide_eq_true_eq]
    refine hc.trans ?_
    rw [hsat, chain_eq, hcoil]
    rfl
  · rw [hx] at ht
    cases ht

/-! ## Which check trips (R38 to R41) -/

/-- The cause by which the counts of a sample set trip an ACTIVE ram; NONE where it passes every check (R39 to R41). -/
def Ram.countsCause (cLoad cStroke cCoil gN : Int) (derate pwm : Nat) (x : Ram) : TripCause :=
  let x := x.convert cLoad cStroke cCoil
  let y := x.countCoil
  let z := (y.chain gN derate pwm).countSat
  if cLoad = -32768 ∨ cLoad = 32767 then .input
  else if x.stroke < x.strokeMin ∨ x.strokeMax < x.stroke then .stroke
  else if y.coilCount ≠ 0 ∧ y.coilPeriods ≤ y.coilCount then .coil
  else if z.satPeriods < z.satCount then .saturation
  else .none

theorem strokeOutside_iff (x : Ram) : x.strokeInside = false ↔ x.stroke < x.strokeMin ∨ x.strokeMax < x.stroke := by
  rw [← Bool.not_eq_true, strokeInside_iff]
  omega

/-- A coil fault is what leaves a coil count above 0 (R41). -/
theorem coilFault_countCoil (x : Ram) :
    (x.countCoil.coilFault && decide (x.countCoil.coilPeriods ≤ x.countCoil.coilCount)) = true ↔
      x.countCoil.coilCount ≠ 0 ∧ x.countCoil.coilPeriods ≤ x.countCoil.coilCount := by
  have hf : x.countCoil.coilFault = x.coilFault := rfl
  have hc : x.countCoil.coilCount = if x.coilFault then x.coilCount + 1 else 0 := rfl
  rw [hf, hc]
  cases x.coilFault <;> simp

theorem resting_trip (cause : TripCause) (mid : Nat) (x : Ram) : (x.trip cause mid).Resting mid :=
  resting_atRest mid x

/-- The counts of a sample set leave an ACTIVE ram tripped by their cause and at rest, or ACTIVE where there is none. -/
theorem afterCounts_cause {x : Ram} (cLoad cStroke cCoil gN : Int) (derate pwm : Nat) (hx : x.state = .active) :
    let c := x.countsCause cLoad cStroke cCoil gN derate pwm
    let y := x.afterCounts cLoad cStroke cCoil gN derate pwm
    (c = .none ∧ y.state = .active) ∨
      (c ≠ .none ∧ y.state = .tripped ∧ y.tripCause = c ∧ y.Resting (midOf pwm)) := by
  have hnot : ¬(x.convert cLoad cStroke cCoil).state ≠ .active := not_not.mpr hx
  simp only [Ram.afterCounts, Ram.countsCause, if_neg hnot, atRail_iff, strokeOutside_iff, coilFault_countCoil]
  split_ifs
  any_goals exact .inr ⟨nofun, rfl, rfl, resting_trip _ _ _⟩
  exact .inl ⟨rfl, hx⟩

/-- Settles O7: the counts trip by the first failing check, and after them only a limit does. -/
theorem sampleSetTripsAnActiveRam : Obligations.SampleSetTripsAnActiveRam := by
  intro counts s t e r hr he h hs load x y z cause
  have hts : t = sampleSet counts s := by
    have := (event_out (f := sampleSet counts) hr).symm.trans h
    exact (Host.Outcome.next.inj this).symm
  subst hts
  have hcause := afterCounts_cause load (counts[3 * r.val + 1]).toInt (counts[3 * r.val + 2]).toInt
    (s.groups[s.rams[r].group]).newtons (s.groups[s.rams[r].group]).derate s.hall.pwmPeriod hs
  change (cause = .none ∧ (afterSet counts r s).state = .active) ∨
    (cause ≠ .none ∧ (afterSet counts r s).state = .tripped ∧ (afterSet counts r s).tripCause = cause ∧
      (afterSet counts r s).Resting (midOf s.hall.pwmPeriod)) at hcause
  rcases sampleSet_ram he counts r with ⟨hx, hm⟩ | ⟨hact, hx, hm⟩ <;> rw [hx]
  · rcases hcause with ⟨hn, ha⟩ | ⟨hn, htr, hc, hrest⟩
    · exact ⟨fun h => absurd hn h, fun _ => .inl ha, fun h => absurd (ha.symm.trans h) (by decide)⟩
    · exact ⟨fun _ => ⟨htr, hc⟩, fun h => absurd h hn, fun _ => ⟨hrest, hm hs htr⟩⟩
  · rcases hcause with ⟨hn, -⟩ | ⟨-, htr, -⟩
    · exact ⟨fun h => absurd hn h, fun _ => .inr ⟨rfl, rfl⟩, fun _ => ⟨resting_trip _ _ _, hm⟩⟩
    · exact absurd (hact.symm.trans htr) (by decide)

end Sys2Proof.Machine
end

section
/-! The pair-by-pair check of a WRITE (R178), and which fields take which values (Tables 1-1 to 10-4). -/

namespace Sys2Proof.Machine

/-! ## One pair after another -/

theorem names_iff (f : Nat) (pairs : List (Nat × Int)) : names f pairs = true ↔ ∃ p ∈ pairs, p.1 = f := by
  simp [names]

/-- Steps 2 to 4 of R178 as one decision list. -/
theorem checkPair_eq (s : State) (r : RecordId) (seen : List (Nat × Int)) (f : Nat) (v : Int) :
    checkPair s r seen f v =
      if accessOf r.kind f = .readOnly ∨ ∃ p ∈ seen, p.1 = f then some .badField
      else if (accessOf r.kind f).admits v = false then some .badValue
      else if letsWrite s r f = false then some .wrongState
      else none := by
  simp only [checkPair, ← names_iff, Bool.or_eq_true, decide_eq_true_eq]

theorem checkPair_passes {s : State} {r : RecordId} {seen : List (Nat × Int)} {f : Nat} {v : Int}
    (h : PairPasses s r seen f v) : checkPair s r seen f v = none := by
  obtain ⟨ha, hn, hv, hl⟩ := h
  have hnamed : ¬(accessOf r.kind f = .readOnly ∨ ∃ p ∈ seen, p.1 = f) := by
    rintro (h | ⟨p, hp, hf⟩)
    · exact ha h
    · exact hn p hp hf
  rw [checkPair_eq, if_neg hnamed, if_neg (by simp [hv]), if_neg (by simp [hl])]

/-- No kind has a field beyond number 27, so a field number is its byte. -/
theorem byte_of_width {k : Kind} {f w : Nat} (h : k.width? f = some w) : (byte f).toNat = f := by
  have hf : f < 256 := by
    unfold Kind.width? at h
    split at h
    · cases h
    · have hlen : k.widths.length ≤ 27 := by cases k <;> decide
      have := (List.getElem?_eq_some_iff.mp h).1
      omega
  exact byte_toNat hf

/-- The bytes of one item: the field number and its value (R185). -/
def itemBytes (p : Nat × List Byte) : List Byte := byte p.1 :: p.2

/-- The value that an item carries for its field (R185). -/
def itemValue (r : RecordId) (p : Nat × List Byte) : Nat × Int := (p.1, (accessOf r.kind p.1).decode p.2)

/-- Whole items that pass are taken one by one, and what follows them is checked next (R178). -/
theorem checkPairs_items {s : State} {r : RecordId} (ps : List (Nat × List Byte)) (tail : List Byte) (n : Nat)
    (seen : List (Nat × Int)) (hw : ∀ p ∈ ps, r.kind.width? p.1 = some p.2.length)
    (hp : ∀ i (h : i < ps.length),
      PairPasses s r (seen ++ (ps.take i).map (itemValue r)) (ps[i]).1 (itemValue r ps[i]).2) :
    checkPairs s r (ps.length + n) seen (ps.flatMap itemBytes ++ tail) =
      checkPairs s r n (seen ++ ps.map (itemValue r)) tail := by
  induction ps generalizing seen with
  | nil => simp
  | cons p ps ih =>
    have hwp := hw p List.mem_cons_self
    have hpp := checkPair_passes (hp 0 (by simp))
    simp only [List.take_zero, List.map_nil, List.append_nil, List.getElem_cons_zero] at hpp
    have hlen : ¬(p.2 ++ (ps.flatMap itemBytes ++ tail)).length < p.2.length := by simp
    have hstep := ih (seen ++ [itemValue r p]) (fun q hq => hw q (List.mem_cons_of_mem _ hq)) fun i h => by
      rw [List.append_assoc]
      exact hp (i + 1) (by simpa using h)
    rw [show (p :: ps).length + n = (ps.length + n) + 1 by simp; omega]
    simp only [List.flatMap_cons, itemBytes, List.cons_append, List.append_assoc, checkPairs,
      byte_of_width hwp, hwp, if_neg hlen, List.take_left, List.drop_left]
    rw [show checkPair s r seen p.1 ((accessOf r.kind p.1).decode p.2) = none from hpp]
    refine hstep.trans ?_
    rw [List.append_assoc]
    rfl

/-- The next item of a run, by steps 1 to 4 of R178. -/
theorem checkPairs_next (s : State) (r : RecordId) (n : Nat) (seen : List (Nat × Int)) (f : Byte) (rest : List Byte) :
    (r.kind.width? f.toNat = none → checkPairs s r (n + 1) seen (f :: rest) = .bad .badField seen.length) ∧
      ∀ w, r.kind.width? f.toNat = some w →
        (rest.length < w → checkPairs s r (n + 1) seen (f :: rest) = .bad .badValue seen.length) ∧
          ∀ st, w ≤ rest.length →
            checkPair s r seen f.toNat ((accessOf r.kind f.toNat).decode (rest.take w)) = some st →
            checkPairs s r (n + 1) seen (f :: rest) = .bad st seen.length := by
  refine ⟨fun h => ?_, fun w hw => ⟨fun h => ?_, fun st h hc => ?_⟩⟩
  · simp only [checkPairs, h]
  · simp only [checkPairs, hw, if_pos h]
  · simp only [checkPairs, hw, if_neg (Nat.not_lt.mpr h), hc]

theorem checkPairs_nil (s : State) (r : RecordId) (n : Nat) (seen : List (Nat × Int)) :
    checkPairs s r n seen [] = .good seen := by
  cases n <;> rfl

theorem length_le_flatMap_itemBytes (ps : List (Nat × List Byte)) : ps.length ≤ (ps.flatMap itemBytes).length := by
  induction ps with
  | nil => simp
  | cons p ps ih =>
    simp only [List.flatMap_cons, List.length_append, itemBytes, List.length_cons]
    omega

/-! ## The record that a WRITE names -/

theorem code_of_ofCode {n : Nat} {k : Kind} (h : Kind.ofCode n = some k) : n = k.code := by
  unfold Kind.ofCode at h
  split at h <;> cases h <;> rfl

/-- The record found is the one of that kind code and key (Table 11-3). -/
theorem pair_of_recordOf {kind key : Byte} {r : RecordId} (h : recordOf kind key = some r) :
    r.pair = (kind.toNat, key.toNat) := by
  unfold recordOf at h
  simp only at h
  split at h
  · cases h
  all_goals
    next hk =>
      rw [code_of_ofCode hk]
      split at h <;> cases h
      simp_all [RecordId.pair, Kind.code]

theorem recordOf_of_pair {kind key : Byte} {r : RecordId} (h : r.pair = (kind.toNat, key.toNat)) :
    recordOf kind key = some r := by
  cases r <;> simp only [RecordId.pair, Prod.mk.injEq] at h <;>
    simp [recordOf, ← h.1, ← h.2, Kind.ofCode]

/-- A WRITE under any of its names is the one WRITE of that record (R178). -/
theorem exec_asTaken_write {c : Instr} {kind key : Byte} {items : List Byte} (h : asTaken c = .write kind key items)
    (s : State) : exec c s = request c (writeRecord kind key items) s := by
  cases c <;> cases h <;> rfl

/-- A WRITE that fails before or at a pair is refused there, and changes nothing (R178). -/
theorem writeRecord_refusals (kind key : Byte) (items : List Byte) (s : State) :
    ((∀ r : RecordId, r.pair ≠ (kind.toNat, key.toNat)) → writeRecord kind key items s = (refuse .badKey, s)) ∧
      ∀ r : RecordId, r.pair = (kind.toNat, key.toNat) →
        (items = [] → writeRecord kind key items s = (refuseAt .badValue 0, s)) ∧
          ∀ st i, items ≠ [] → checkPairs s r items.length [] items = .bad st i →
            writeRecord kind key items s = (refuseAt st i, s) := by
  refine ⟨fun h => ?_, fun r hr => ⟨fun h => ?_, fun st i h hc => ?_⟩⟩
  · cases hk : recordOf kind key with
    | none => simp only [writeRecord, hk]
    | some r => exact absurd (pair_of_recordOf hk) (h r)
  · simp [writeRecord, recordOf_of_pair hr, h]
  · simp [writeRecord, recordOf_of_pair hr, h, hc]

/-! ## When an owner lets a field be written -/

theorem letsWrite_hall (s : State) (f : Nat) :
    letsWrite s .hall f = false ↔
      (f = 3 ∧ ∃ r : Fin 8, s.rams[r].state = .active) ∨ (f = 4 ∧ s.plan.roundState ≠ .idle) := by
  unfold letsWrite
  by_cases h3 : f = 3
  · simp [h3, someRamActive]
  · by_cases h4 : f = 4 <;> simp [h3, h4]

theorem letsWrite_ram (s : State) (r : Fin 8) (f : Nat) :
    letsWrite s (.ram r) f = false ↔
      (f = 3 ∧ s.rams[r].state ≠ .off) ∨
        ((f = 5 ∨ f = 6 ∨ f = 10 ∨ f = 11 ∨ f = 17) ∧ s.rams[r].state = .active) := by
  unfold letsWrite
  by_cases h3 : f = 3
  · simp [h3]
  · by_cases h : f = 5 ∨ f = 6 ∨ f = 10 ∨ f = 11 ∨ f = 17
    · simp [h3, h, or_assoc]
    · simp [h3, h, or_assoc]

theorem letsWrite_gauge (s : State) (k : Fin 48) (f : Nat) :
    letsWrite s (.gauge k) f = false ↔ (f = 2 ∨ f = 3 ∨ f = 4) ∧ s.gauges[k].enabled = true := by
  unfold letsWrite
  by_cases h : f = 2 ∨ f = 3 ∨ f = 4 <;> simp [h, or_assoc]

theorem letsWrite_apod (s : State) (p : Fin 16) (f : Nat) :
    letsWrite s (.apod p) f = false ↔ f = 2 ∧ s.apods[p].enabled = true := by
  unfold letsWrite
  by_cases h : f = 2 <;> simp [h]

theorem letsWrite_limit (s : State) (l : Fin 24) (f : Nat) :
    letsWrite s (.limit l) f = false ↔
      f ≠ 2 ∧ ∃ x, s.limits[l] = some x ∧ (x.state = .tripped ∨ x.state = .latched) := by
  unfold letsWrite
  cases h : s.limits[l] with
  | none => simp only [h]; simp
  | some x =>
    simp only [h]
    simp [Limit.engaged, or_iff_not_imp_left]

/-! ## Which values a field takes -/

/-- The access of a writable field that takes the values from lo to hi, with the two of another form: bus_speed and
fs_force. -/
def accessOfRange (k : Kind) (f : Nat) (lo hi : Int) : Access :=
  if k = .hall ∧ f = 4 then .either lo hi else if k = .ram ∧ f = 5 then .zeroOr 1000 hi else .range lo hi

/-- A table of fields and ranges gives every writable field of the part, and no other. -/
def GivesAccess (writable : List (Kind × Nat × Int × Int)) : Prop :=
  (∀ q ∈ writable, accessOf q.1 q.2.1 = accessOfRange q.1 q.2.1 q.2.2.1 q.2.2.2 ∧
      (q.1 = .hall → q.2.1 = 4 → q.2.2 = (100, 400)) ∧ (q.1 = .ram → q.2.1 = 5 → q.2.2 = (0, 8000000))) ∧
    ∀ k ∈ [Kind.hall, .ram, .group, .step, .plan, .gauge, .gpod, .apod, .crackset, .crack, .limit],
      ∀ f ∈ List.range 29, accessOf k f = .readOnly ∨ ∃ q ∈ writable, q.1 = k ∧ q.2.1 = f

theorem admits_of_givesAccess {writable : List (Kind × Nat × Int × Int)} (h : GivesAccess writable) {k : Kind} {f : Nat}
    {lo hi : Int} (hm : (k, f, lo, hi) ∈ writable) :
    accessOf k f ≠ .readOnly ∧
      ∀ v : Int,
        (accessOf k f).admits v = true ↔
          lo ≤ v ∧ v ≤ hi ∧ (k = .hall → f = 4 → v = 100 ∨ v = 400) ∧ (k = .ram → f = 5 → v = 0 ∨ 1000 ≤ v) := by
  obtain ⟨ha, hb, hf⟩ := h.1 _ hm
  simp only [accessOfRange] at ha hb hf
  rw [ha]
  by_cases h4 : k = .hall ∧ f = 4
  · obtain ⟨rfl, rfl⟩ := h4
    obtain ⟨rfl, rfl⟩ := Prod.mk.inj (hb rfl rfl)
    simp [Access.admits]
    omega
  · by_cases h5 : k = .ram ∧ f = 5
    · obtain ⟨rfl, rfl⟩ := h5
      obtain ⟨rfl, rfl⟩ := Prod.mk.inj (hf rfl rfl)
      simp [Access.admits]
      omega
    · rw [if_neg h4, if_neg h5]
      refine ⟨nofun, fun v => ?_⟩
      simp only [Access.admits, Bool.and_eq_true, decide_eq_true_eq]
      tauto

theorem readOnly_of_givesAccess {writable : List (Kind × Nat × Int × Int)} (h : GivesAccess writable) {k : Kind}
    {f : Nat} (hn : ∀ lo hi, (k, f, lo, hi) ∉ writable) : accessOf k f = .readOnly := by
  by_cases hf : f < 29
  · rcases h.2 k (by cases k <;> decide) f (List.mem_range.mpr hf) with hr | ⟨⟨k', f', lo, hi⟩, hq, rfl, rfl⟩
    · exact hr
    · exact absurd hq (hn lo hi)
  · have hlen : (accessTable k).length ≤ 27 := by cases k <;> decide
    unfold accessOf
    split
    · rfl
    · exact List.getD_eq_default _ _ (by omega)

/-- A run of whole items that pass, and what its tail then gives (R178). -/
theorem checkPairs_run {s : State} {r : RecordId} {ps : List (Nat × List Byte)} (tail : List Byte)
    (hw : ∀ p ∈ ps, r.kind.width? p.1 = some p.2.length)
    (hp : ∀ i (h : i < (ps.map (itemValue r)).length),
      PairPasses s r ((ps.map (itemValue r)).take i) ((ps.map (itemValue r))[i]).1 ((ps.map (itemValue r))[i]).2) :
    ∃ n, tail.length ≤ n ∧
      checkPairs s r (ps.flatMap itemBytes ++ tail).length [] (ps.flatMap itemBytes ++ tail) =
        checkPairs s r n (ps.map (itemValue r)) tail := by
  have hlen := length_le_flatMap_itemBytes ps
  obtain ⟨n, hn⟩ := Nat.exists_eq_add_of_le (show ps.length ≤ (ps.flatMap itemBytes ++ tail).length by
    rw [List.length_append]; omega)
  refine ⟨n, ?_, ?_⟩
  · rw [List.length_append] at hn
    omega
  · rw [hn]
    refine checkPairs_items ps tail n [] hw fun i h => ?_
    have := hp i (by simpa using h)
    rwa [List.getElem_map, ← List.map_take] at this

/-- Settles O41: the item run by induction on its whole items, the tables by their entries. -/
theorem writesAreCheckedPairByPair : Obligations.WritesAreCheckedPairByPair := by
  refine ⟨⟨?_, ?_⟩, ?_, ?_⟩
  · intro s r ps tail items vals hw hp
    obtain ⟨n, hn, hrun⟩ := checkPairs_run tail hw hp
    have hvals : vals.length = ps.length := List.length_map _
    refine ⟨fun ht => hrun.trans (by rw [ht]; exact checkPairs_nil _ _ _ _), fun f rest ht => ?_⟩
    subst ht
    obtain ⟨m, rfl⟩ : ∃ m, n = m + 1 := ⟨n - 1, by rw [List.length_cons] at hn; omega⟩
    obtain ⟨hnone, hsome⟩ := checkPairs_next s r m vals f rest
    rw [hvals] at hnone hsome
    refine ⟨fun h => hrun.trans (hnone h), fun w hw' => ?_⟩
    intro a v named
    obtain ⟨hshort, hcheck⟩ := hsome w hw'
    have hnamed : (accessOf r.kind f.toNat = .readOnly ∨ ∃ p ∈ vals, p.1 = f.toNat) ↔ named := by
      refine or_congr_right ⟨?_, fun ⟨p, hp, h⟩ => ⟨_, List.mem_map_of_mem hp, h⟩⟩
      rintro ⟨v, hv, h⟩
      obtain ⟨p, hp, rfl⟩ := List.mem_map.mp hv
      exact ⟨p, hp, h⟩
    refine ⟨fun h => hrun.trans (hshort h), fun h hnm => hrun.trans (hcheck _ h ?_),
      fun h hnm hv => hrun.trans (hcheck _ h ?_), fun h hnm hv hl => hrun.trans (hcheck _ h ?_)⟩ <;>
      rw [checkPair_eq]
    · exact if_pos (hnamed.mpr hnm)
    · rw [if_neg (fun h => hnm (hnamed.mp h)), if_pos hv]
    · rw [if_neg (fun h => hnm (hnamed.mp h)), if_neg (by rw [hv]; decide), if_pos hl]
  · intro c kind key items s hc hd
    obtain ⟨hkey, hrec⟩ := writeRecord_refusals kind key items s
    have hx {resp : Response} (hb : writeRecord kind key items s = (resp, s)) :
        exec c s = .next { s with port := answered resp s } :=
      (exec_asTaken_write hc s).trans (request_due_idle hd hb)
    exact ⟨fun h => hx (hkey h), fun r hr =>
      ⟨fun h => hx ((hrec r hr).1 h), fun st i h1 h2 => hx ((hrec r hr).2 st i h1 h2)⟩⟩
  · exact fun s f => ⟨letsWrite_hall s f, fun r => letsWrite_ram s r f, fun k => letsWrite_gauge s k f,
      fun p => letsWrite_apod s p f, fun l => letsWrite_limit s l f, rfl, rfl, fun _ => rfl, fun _ => rfl⟩
  · have hg {writable : List (Kind × Nat × Int × Int)} (h : GivesAccess writable) :
        (∀ (k : Kind) (f : Nat) (lo hi : Int), (k, f, lo, hi) ∈ writable →
          accessOf k f ≠ .readOnly ∧
            ∀ v : Int,
              (accessOf k f).admits v = true ↔
                lo ≤ v ∧ v ≤ hi ∧ (k = .hall → f = 4 → v = 100 ∨ v = 400) ∧
                  (k = .ram → f = 5 → v = 0 ∨ 1000 ≤ v)) ∧
          ∀ (k : Kind) (f : Nat), (∀ lo hi, (k, f, lo, hi) ∉ writable) → accessOf k f = .readOnly :=
      ⟨fun k f lo hi hm => admits_of_givesAccess h hm, fun k f hn => readOnly_of_givesAccess h hn⟩
    exact hg (by unfold GivesAccess; decide +kernel)

end Sys2Proof.Machine
end

section
/-! What the protection path neither reads nor writes: a change of anything else, made before it or after it, gives the same
state. -/

namespace Sys2Proof.Machine

/-- A change J of a state that commutes with every writing of the protection path, and leaves what the path reads besides
the limits. -/
structure Beside (J : State → State) : Prop where
  rams : ∀ s, (J s).rams = s.rams
  groups : ∀ s, (J s).groups = s.groups
  steps : ∀ s, (J s).steps = s.steps
  hall : ∀ s, (J s).hall = s.hall
  setRam : ∀ r x s, setRam r x (J s) = J (setRam r x s)
  markRam : ∀ r s, mark (.ram r) (J s) = J (mark (.ram r) s)
  putGroup : ∀ g x s, putGroup g x (J s) = J (putGroup g x s)

/-- A change that commutes with every writing of the limits besides, and leaves them. -/
structure BesideLimits (J : State → State) : Prop extends Beside J where
  limits : ∀ s, (J s).limits = s.limits
  putLimit : ∀ i x s, putLimit i x (J s) = J (putLimit i x s)

theorem forAll_commutes {n : Nat} {f : Fin n → State → State} {J : State → State} (h : ∀ i t, f i (J t) = J (f i t))
    (s : State) : forAll f (J s) = J (forAll f s) := by
  unfold forAll
  generalize List.finRange n = l
  induction l generalizing s with
  | nil => rfl
  | cons i l ih => rw [List.foldl_cons, List.foldl_cons, h, ih]

theorem markIf_commutes {i : RecordId} {J : State → State} (h : ∀ s, mark i (J s) = J (mark i s)) (b : Bool)
    (s : State) : markIf b i (J s) = J (markIf b i s) := by
  unfold markIf
  rw [h, apply_ite J]

namespace Beside

variable {J : State → State} (h : Beside J)
include h

theorem anyActive (g : Fin 4) (s : State) : anyActive g (J s) = anyActive g s := by
  simp only [Machine.anyActive, h.rams]

theorem isCycling (g : Fin 4) (s : State) : isCycling g (J s) = isCycling g s := by
  simp only [Machine.isCycling, Machine.currentStep, h.groups, h.steps]

theorem unloadGroup (g : Fin 4) (s : State) : unloadGroup g (J s) = J (unloadGroup g s) := by
  simp only [Machine.unloadGroup, h.anyActive, h.groups, h.putGroup, apply_ite J]

theorem groupTrip (g : Fin 4) (s : State) : groupTrip g (J s) = J (groupTrip g s) := by
  cases hs : s.groups[g].state <;>
    simp only [Machine.groupTrip, h.groups, hs, h.unloadGroup, h.anyActive, h.putGroup, apply_ite J]

theorem tripRam (cause : TripCause) (r : Fin 8) (s : State) : tripRam cause r (J s) = J (tripRam cause r s) := by
  simp only [Machine.tripRam, midCompare, h.rams, h.hall, h.setRam, h.markRam, h.groupTrip, apply_ite J]

theorem tripGroup (cause : TripCause) (g : Fin 4) (s : State) :
    tripGroup cause g (J s) = J (tripGroup cause g s) :=
  forAll_commutes (fun r t => by simp only [h.rams, h.tripRam, apply_ite J]) s

theorem applyAction (a : Action) (g : Fin 4) (s : State) : applyAction a g (J s) = J (applyAction a g s) := by
  cases a <;> cases hs : s.groups[g].state <;>
    simp only [Machine.applyAction, h.groups, hs, h.isCycling, h.putGroup, h.unloadGroup, h.tripGroup, apply_ite J]

theorem takeCounts (r : Fin 8) (cLoad cStroke cCoil : Int) (s : State) :
    takeCounts r cLoad cStroke cCoil (J s) = J (takeCounts r cLoad cStroke cCoil s) := by
  simp only [Machine.takeCounts, h.rams, h.groups, h.hall, h.setRam, h.tripRam, apply_ite J]

end Beside

namespace BesideLimits

variable {J : State → State} (h : BesideLimits J)
include h

theorem recompute (g : Fin 4) (s : State) : recompute g (J s) = J (recompute g s) := by
  simp only [Machine.recompute, engagedOn, h.groups, h.limits, h.putGroup]

theorem notifyEngage (l : Limit) (s : State) : notifyEngage l (J s) = J (notifyEngage l s) :=
  forAll_commutes (fun g t => by simp only [h.recompute, h.applyAction, apply_ite J]) s

theorem notifyRelease (l : Limit) (s : State) : notifyRelease l (J s) = J (notifyRelease l s) :=
  forAll_commutes (fun g t => by simp only [h.recompute, apply_ite J]) s

/-- An evaluation before the change is one after it, where the change leaves what the source of the limit reads. -/
theorem evalLimit {i : Fin 24} {s : State} (hv : ∀ l, s.limits[i] = some l → sourceValue l (J s) = sourceValue l s) :
    evalLimit i (J s) = J (evalLimit i s) := by
  cases hl : s.limits[i] with
  | none => simp only [Machine.evalLimit, h.limits, hl]
  | some l =>
    have hev : l.evaluated (J s) = l.evaluated s := by simp only [Limit.evaluated, hv l hl]
    simp only [Machine.evalLimit, h.limits, hl, hev, h.putLimit, h.notifyEngage, h.notifyRelease]
    repeat' split
    all_goals rfl

end BesideLimits

/-! ## Another limit table -/

/-- The state with another limit table. -/
def withLimits (ls : Vector (Option Limit) 24) (s : State) : State := { s with limits := ls }

theorem beside_withLimits (ls : Vector (Option Limit) 24) : Beside (withLimits ls) where
  rams _ := rfl
  groups _ := rfl
  steps _ := rfl
  hall _ := rfl
  setRam _ _ _ := rfl
  markRam _ _ := rfl
  putGroup g _ s := markIf_commutes (i := .group g) (J := withLimits ls) (fun _ => rfl) _ { s with groups := _ }

/-! ## What stands aside of the protection path -/

/-- The state o with the rams, groups, steps, limits, crack slots and their marks of state s. -/
def graft (o s : State) : State :=
  { o with
    rams := s.rams
    groups := s.groups
    steps := s.steps
    limits := s.limits
    cracks := s.cracks
    marks := { o.marks with ram := s.marks.ram, group := s.marks.group, limit := s.marks.limit } }

theorem putGroup_graft (g : Fin 4) (x : Group) (o s : State) : putGroup g x (graft o s) = graft o (putGroup g x s) :=
  markIf_commutes (i := .group g) (J := graft o) (fun _ => rfl) _ { s with groups := _ }

theorem putLimit_graft (i : Fin 24) (x : Option Limit) (o s : State) :
    putLimit i x (graft o s) = graft o (putLimit i x s) :=
  markIf_commutes (i := .limit i) (J := graft o) (fun _ => rfl) _ { s with limits := _ }

/-- An operation that reads and writes nothing of what the protection path writes, nor what it reads but hall. -/
def Aside (u : State → State) : Prop := ∀ o s, u (graft o s) = graft (u o) s

namespace Aside

variable {u v : State → State}

theorem comp (hv : Aside v) (hu : Aside u) : Aside fun s => v (u s) := fun o s =>
  (congrArg v (hu o s)).trans (hv (u o) s)

/-- An operation of a limit's path, which acts on the grafted part alone, goes before or after. -/
theorem commutes (hu : Aside u) {a : State → State} (ha : ∀ o s, a (graft o s) = graft o (a s)) (s : State) :
    a (u s) = u (a s) := by
  have hs : u s = graft (u s) s := hu s s
  calc
    a (u s) = graft (u s) (a s) := by rw [hs, ha, ← hs]
    _ = u (graft s (a s)) := (hu s (a s)).symm
    _ = u (a s) := by rw [← ha]; rfl

theorem besideLimits (hu : Aside u) (hh : ∀ s, (u s).hall = s.hall) : BesideLimits u where
  rams s := by rw [show u s = graft (u s) s from hu s s]; rfl
  groups s := by rw [show u s = graft (u s) s from hu s s]; rfl
  steps s := by rw [show u s = graft (u s) s from hu s s]; rfl
  hall := hh
  setRam r x s := hu.commutes (fun _ _ => rfl) s
  markRam r s := hu.commutes (fun _ _ => rfl) s
  putGroup g x s := hu.commutes (putGroup_graft g x) s
  limits s := by rw [show u s = graft (u s) s from hu s s]; rfl
  putLimit i x s := hu.commutes (putLimit_graft i x) s

theorem withLimits (hu : Aside u) (ls : Vector (Option Limit) 24) (s : State) :
    u (withLimits ls s) = Machine.withLimits ls (u s) := by
  have hs : u s = graft (u s) s := hu s s
  calc
    u (Machine.withLimits ls s) = graft (u s) (Machine.withLimits ls s) := hu s (Machine.withLimits ls s)
    _ = Machine.withLimits ls (graft (u s) s) := rfl
    _ = Machine.withLimits ls (u s) := by rw [← hs]

theorem cracks (hu : Aside u) (s : State) : (u s).cracks = s.cracks := by
  rw [show u s = graft (u s) s from hu s s]; rfl

end Aside

end Sys2Proof.Machine
end

section
/-! The events at which the only limit defined is evaluated, told by two runs side by side: one with the limit's slot EMPTY,
and the real one, which is the first with the evaluations so far. -/

namespace Sys2Proof.Machine

/-! ## Folds in which one visit counts -/

/-- Where every visit but one changes nothing, the whole is that visit. -/
theorem forAll_only {n : Nat} {f : Fin n → State → State} {P : State → Prop} {i : Fin n} {s : State}
    (h : ∀ j, j ≠ i → ∀ t, P t → f j t = t) (hs : P s) (hi : P (f i s)) : forAll f s = f i s := by
  obtain ⟨a, ha, hb⟩ := forAll_around (R := fun a b => P a → b = a) (fun _ _ => rfl)
    (fun a b c hab hbc hp => by rw [hbc (by rwa [hab hp]), hab hp]) i h s
  rw [ha hs] at hb
  exact hb hi

theorem forAll_idle {n : Nat} {f : Fin n → State → State} {s : State} (h : ∀ j, f j s = s) : forAll f s = s :=
  forAll_invariant (P := (· = s)) (fun j t ht => by rw [ht, h]) rfl

/-- Two states visited side by side: what holds between them before the visit of index c turns there into what holds
after it. -/
theorem forAll_beside {n : Nat} {f : Fin n → State → State} {R Q : State → State → Prop} (c : Fin n)
    (hR : ∀ j, j ≠ c → ∀ t s, R t s → R (f j t) (f j s)) (hc : ∀ t s, R t s → Q (f c t) (f c s))
    (hQ : ∀ j, j ≠ c → ∀ t s, Q t s → Q (f j t) (f j s)) {t s : State} (h : R t s) :
    Q (forAll f t) (forAll f s) := by
  obtain ⟨before, after, hl⟩ := List.append_of_mem (List.mem_finRange c)
  have hd := List.nodup_finRange n
  rw [hl, List.nodup_append, List.nodup_cons] at hd
  obtain ⟨-, ⟨hafter, -⟩, hbefore⟩ := hd
  have hfold {S : State → State → Prop} (hS : ∀ j, j ≠ c → ∀ t s, S t s → S (f j t) (f j s)) :
      ∀ (l : List (Fin n)), (∀ j ∈ l, j ≠ c) → ∀ t s, S t s →
        S (l.foldl (fun t j => f j t) t) (l.foldl (fun t j => f j t) s) := by
    intro l
    induction l with
    | nil => exact fun _ _ _ h => h
    | cons j l ih =>
      exact fun hj t s h =>
        ih (fun k hk => hj k (List.mem_cons_of_mem _ hk)) _ _ (hS j (hj j List.mem_cons_self) t s h)
  unfold forAll
  rw [hl, List.foldl_append, List.foldl_append, List.foldl_cons, List.foldl_cons]
  exact hfold hQ after (fun j hj e => hafter (e ▸ hj)) _ _
    (hc _ _ (hfold hR before (fun j hj e => hbefore j hj c List.mem_cons_self e) t s h))

/-! ## A table with one limit -/

/-- Slot i holds a limit on the source of l, and every other slot is EMPTY. -/
def Sole (i : Fin 24) (l : Limit) (ls : Vector (Option Limit) 24) : Prop :=
  (∃ x, ls[i] = some x ∧ x.source = l.source ∧ x.sourceKey = l.sourceKey) ∧ ∀ j, j ≠ i → ls[j] = none

/-- No limit is defined. -/
def Bare (s : State) : Prop := ∀ j : Fin 24, s.limits[j] = none

/-- The events that reach a limit are told from its source alone. -/
def OfSource (p : Limit → Bool) : Prop :=
  ∀ x y : Limit, x.source = y.source → x.sourceKey = y.sourceKey → p x = p y

theorem ofSource_isPlant : OfSource Limit.isPlant := fun x y h _ => by simp only [Limit.isPlant, h]

theorem ofSource_isCrackOf (g : Fin 4) : OfSource (Limit.isCrackOf g) := fun x y h k => by
  simp only [Limit.isCrackOf, h, k]

theorem ofSource_isGaugeOf (k : Fin 48) : OfSource (Limit.isGaugeOf k) := fun x y h k => by
  simp only [Limit.isGaugeOf, h, k]

theorem ofSource_isGaugeOfPods (ps : List (Fin 12)) : OfSource (Limit.isGaugeOfPods ps) := fun x y h k => by
  simp only [Limit.isGaugeOfPods, h, k]

/-- Notices leave the limit table. -/
theorem keepsLimits_tripPath : TripPath .limit fun s t => t.limits = s.limits where
  refl _ := rfl
  trans h k := k.trans h
  putGroup g x s := by simp
  trip r s _ := rfl

theorem evaluated_source (x : Limit) (s : State) :
    (x.evaluated s).source = x.source ∧ (x.evaluated s).sourceKey = x.sourceKey := by
  have hj (v : Int) : (x.judge v).source = x.source ∧ (x.judge v).sourceKey = x.sourceKey := by
    unfold Limit.judge
    repeat' split
    all_goals exact ⟨rfl, rfl⟩
  have hs : x.judgeStale.source = x.source ∧ x.judgeStale.sourceKey = x.sourceKey := by
    unfold Limit.judgeStale
    split <;> exact ⟨rfl, rfl⟩
  unfold Limit.evaluated
  split
  · exact hj _
  · exact hs

section
variable {i : Fin 24} {l : Limit} {s : State}

theorem limits_evalLimit {x : Limit} (hx : s.limits[i] = some x) :
    (evalLimit i s).limits = s.limits ∨ (evalLimit i s).limits = s.limits.set i (some (x.evaluated s)) := by
  have ht : (putLimit i (some (x.evaluated s)) s).limits = s.limits.set i (some (x.evaluated s)) := by simp
  simp only [evalLimit, hx]
  split
  · exact .inl rfl
  · refine .inr ?_
    split
    · exact (keepsLimits_tripPath.notifyEngage _ _).trans ht
    · split
      · exact (keepsLimits_tripPath.notifyRelease _ _).trans ht
      · exact ht

theorem Sole.evalLimit (h : Sole i l s.limits) : Sole i l (evalLimit i s).limits := by
  obtain ⟨⟨x, hx, hs, hk⟩, ho⟩ := h
  rcases limits_evalLimit hx with he | he
  · rw [he]
    exact ⟨⟨x, hx, hs, hk⟩, ho⟩
  · obtain ⟨es, ek⟩ := evaluated_source x s
    rw [he]
    refine ⟨⟨x.evaluated s, by rw [getElem_set_fin, if_pos rfl], es.trans hs, ek.trans hk⟩, fun j hj => ?_⟩
    rw [getElem_set_fin, if_neg (Ne.symm hj), ho j hj]

theorem Sole.evalWhere (h : Sole i l s.limits) {p : Limit → Bool} (hp : OfSource p) :
    evalWhere p s = if p l then Machine.evalLimit i s else s := by
  obtain ⟨x, hx, hs, hk⟩ := h.1
  have hv : (if (s.limits[i]).any p then Machine.evalLimit i s else s) = if p l then Machine.evalLimit i s else s := by
    rw [hx, Option.any_some, hp x l hs hk]
  refine (forAll_only (P := fun t => Sole i l t.limits) (i := i) (fun j hj t ht => ?_) h ?_).trans hv
  · rw [ht.2 j hj]
    rfl
  · rw [hv]
    split
    · exact h.evalLimit
    · exact h

theorem Sole.noticeZones (h : Sole i l s.limits) (c : Fin 4 → Bool) {g : Fin 4} (hz : ∀ k, k ≠ g → l.isCrackOf k = false) :
    noticeZones c s = if c g ∧ l.isCrackOf g then Machine.evalLimit i s else s := by
  have hv : (if c g then Machine.evalWhere (Limit.isCrackOf g) s else s) =
      if c g ∧ l.isCrackOf g then Machine.evalLimit i s else s := by
    rw [h.evalWhere (ofSource_isCrackOf g), ite_and]
  refine (forAll_only (P := fun t => Sole i l t.limits) (i := g) (fun j hj t ht => ?_) h ?_).trans hv
  · rw [ht.evalWhere (ofSource_isCrackOf j), hz j hj]
    simp
  · rw [hv]
    split
    · exact h.evalLimit
    · exact h

theorem Bare.evalWhere (h : Bare s) (p : Limit → Bool) : evalWhere p s = s :=
  forAll_idle fun j => by rw [h j]; rfl

theorem Bare.noticeZones (h : Bare s) (c : Fin 4 → Bool) : noticeZones c s = s :=
  forAll_idle fun g => by rw [h.evalWhere, ite_self]

end

/-! ## Two runs side by side -/

/-- From a state t without limits: s is t with the limit table ls, evaluated n times at slot i. -/
structure Runs (i : Fin 24) (l : Limit) (ls : Vector (Option Limit) 24) (n : Nat) (t s : State) : Prop where
  sole : Sole i l ls
  bare : Bare t
  eq : s = (evalLimit i)^[n] (withLimits ls t)

/-- An operation that does the same whatever the limit table. -/
def Blind (u : State → State) : Prop := ∀ ls t, u (withLimits ls t) = withLimits ls (u t)

theorem Aside.blind {u : State → State} (hu : Aside u) : Blind u := hu.withLimits

theorem Blind.limits {u : State → State} (hu : Blind u) (t : State) : (u t).limits = t.limits := by
  change (u (withLimits t.limits t)).limits = t.limits
  rw [hu]
  rfl

theorem Blind.comp {u v : State → State} (hv : Blind v) (hu : Blind u) : Blind fun s => v (u s) := fun ls t =>
  (congrArg v (hu ls t)).trans (hv ls (u t))

theorem Blind.forAll {n : Nat} {f : Fin n → State → State} (h : ∀ i, Blind (f i)) : Blind (forAll f) := fun ls =>
  forAll_commutes fun i t => h i ls t

/-- What a limit's source reads. -/
theorem sourceValue_congr {x : Limit} {s t : State} (hr : t.rams = s.rams) (hh : t.hall = s.hall)
    (hc : t.cracks = s.cracks) (hg : x.source = .gaugeStrain → t.gauges[x.sourceKey]? = s.gauges[x.sourceKey]?) :
    sourceValue x t = sourceValue x s := by
  cases hx : x.source
  case gaugeStrain => simp only [sourceValue, hx, hg hx]
  all_goals simp only [sourceValue, cracksOf, hx, hr, hh, hc]

namespace Runs

variable {i : Fin 24} {l : Limit} {ls : Vector (Option Limit) 24} {n : Nat} {t s : State}

theorem start (h : OnlyLimit s i l) : Runs i l s.limits 0 (withoutLimit i s) s where
  sole := ⟨⟨l, h.1, rfl, rfl⟩, h.2⟩
  bare j := by
    by_cases hj : i = j
    · exact (getElem_set_fin _ _ _ _).trans (if_pos hj)
    · exact ((getElem_set_fin _ _ _ _).trans (if_neg hj)).trans (h.2 j (Ne.symm hj))
  eq := rfl

theorem evaluates {f : State → State} (h : Runs i l s.limits 1 (f (withoutLimit i s)) (f s)) : Evaluates f i s := h.eq

theorem sole_real (h : Runs i l ls n t s) : Sole i l s.limits := by
  obtain ⟨hs, -, rfl⟩ := h
  induction n with
  | zero => exact hs
  | succ n ih => rw [Function.iterate_succ_apply']; exact ih.evalLimit

theorem protects (h : Runs i l ls n t s) : Protects t s := by
  obtain ⟨-, -, rfl⟩ := h
  induction n with
  | zero => exact Eq.refl _
  | succ n ih => rw [Function.iterate_succ_apply']; exact ih.trans (protects_evalLimit _ _)

/-- Where nothing has been evaluated yet, any operation blind to the limits goes on side by side. -/
theorem blind (h : Runs i l ls 0 t s) {u : State → State} (hu : Blind u) : Runs i l ls 0 (u t) (u s) := by
  obtain ⟨hs, hb, rfl⟩ := h
  exact ⟨hs, fun j => by rw [hu.limits]; exact hb j, hu ls t⟩

/-- After evaluations too, an operation goes on side by side that stands aside of them and of the gauge watched. -/
theorem aside (h : Runs i l ls n t s) {u : State → State} (hu : Aside u) (hh : ∀ s, (u s).hall = s.hall)
    (hg : ∀ s, l.source = .gaugeStrain → (u s).gauges[l.sourceKey]? = s.gauges[l.sourceKey]?) :
    Runs i l ls n (u t) (u s) := by
  have hJ := hu.besideLimits hh
  have hcomm (n : Nat) : ∀ x : State, Sole i l x.limits →
      u ((evalLimit i)^[n] x) = (evalLimit i)^[n] (u x) := by
    induction n with
    | zero => exact fun _ _ => rfl
    | succ n ih =>
      intro x hx
      obtain ⟨y, hy, ys, yk⟩ := hx.1
      rw [Function.iterate_succ_apply, Function.iterate_succ_apply, ih _ hx.evalLimit]
      rw [hJ.evalLimit fun z hz => ?_]
      obtain rfl : y = z := Option.some.inj (hy.symm.trans hz)
      refine sourceValue_congr (hJ.rams x) (hh x) (hu.cracks x) fun hk => ?_
      rw [yk]
      exact hg x (ys.symm.trans hk)
  obtain ⟨hs, hb, rfl⟩ := h
  refine ⟨hs, fun j => by rw [hu.blind.limits]; exact hb j, ?_⟩
  rw [hcomm n _ hs, hu.withLimits]

theorem evalWhere (h : Runs i l ls n t s) {p : Limit → Bool} (hp : OfSource p) :
    Runs i l ls (if p l then n + 1 else n) (evalWhere p t) (evalWhere p s) := by
  rw [h.bare.evalWhere, h.sole_real.evalWhere hp]
  split
  · exact ⟨h.sole, h.bare, by rw [Function.iterate_succ_apply', ← h.eq]⟩
  · exact h

theorem noticeZones (h : Runs i l ls n t s) (c : Fin 4 → Bool) {g : Fin 4} (hz : ∀ k, k ≠ g → l.isCrackOf k = false) :
    Runs i l ls (if c g ∧ l.isCrackOf g then n + 1 else n) (noticeZones c t) (noticeZones c s) := by
  rw [h.bare.noticeZones, h.sole_real.noticeZones c hz]
  split
  · exact ⟨h.sole, h.bare, by rw [Function.iterate_succ_apply', ← h.eq]⟩
  · exact h

theorem forAll {m : Nat} {f : Fin m → State → State} (hf : ∀ j t s, Runs i l ls n t s → Runs i l ls n (f j t) (f j s))
    (h : Runs i l ls n t s) : Runs i l ls n (forAll f t) (forAll f s) := by
  unfold Machine.forAll
  generalize List.finRange m = is
  induction is generalizing t s with
  | nil => exact h
  | cons j is ih => exact ih (hf j t s h)

end Runs

end Sys2Proof.Machine
end

section
/-! The operations of the events of Table 9-2, side by side. -/

namespace Sys2Proof.Machine

/-! ## Operations blind to the limits -/

theorem Blind.ite {u v : State → State} {c : State → Prop} [DecidablePred c] (hc : ∀ ls t, c (withLimits ls t) ↔ c t)
    (hu : Blind u) (hv : Blind v) : Blind fun s => if c s then u s else v s := by
  intro ls t
  simp only [hc, hu ls t, hv ls t, apply_ite (withLimits ls)]

theorem blind_id : Blind fun s => s := fun _ _ => rfl

theorem Blind.markIf {u : State → State} {b : State → Bool} {i : RecordId} (hb : ∀ ls t, b (withLimits ls t) = b t)
    (hu : Blind u) : Blind fun s => markIf (b s) i (u s) :=
  .ite (c := fun s => b s = true) (fun ls t => by rw [hb]) (.comp (v := mark i) (fun _ _ => rfl) hu) hu

theorem blind_putGroup (g : Fin 4) (x : Group) : Blind (putGroup g x) := fun ls => (beside_withLimits ls).putGroup g x

theorem blind_putCrack (c : Fin 32) (x : Option Crack) : Blind (putCrack c x) :=
  .markIf (u := fun t => { t with cracks := t.cracks.set c x }) (fun _ _ => rfl) fun _ _ => rfl

theorem blind_takeRam (counts : Vector (BitVec 16) 28) (r : Fin 8) : Blind (takeRam counts r) := fun ls =>
  (beside_withLimits ls).takeCounts r _ _ _

theorem blind_roundGoesOn : Blind roundGoesOn :=
  .ite (u := clearStart .start) (v := latchStart) (fun _ _ => Iff.rfl) (fun _ _ => rfl) fun _ _ => rfl

theorem blind_roundStart (kind : TriggerKind) (delayed : Bool) : Blind (roundStart kind delayed) := by
  unfold roundStart
  exact .ite (fun _ _ => Iff.rfl) (fun _ _ => rfl) (.comp blind_roundGoesOn fun _ _ => rfl)

theorem blind_setArmed (b : Bool) : Blind (setArmed b) :=
  .markIf (u := fun s => setPlan { s.plan with armed := b } s) (fun _ _ => rfl) fun _ _ => rfl

theorem blind_trigger (kind : TriggerKind) : Blind (trigger kind) := by
  unfold trigger
  refine .ite (fun _ _ => Iff.rfl) blind_id (.ite (fun _ _ => Iff.rfl) blind_id (.ite (fun _ _ => Iff.rfl) ?_ ?_))
  · exact .markIf (u := fun s => setPlan { s.plan with missedTriggers := _ } s) (fun _ _ => rfl) fun _ _ => rfl
  · exact .comp (blind_roundStart kind true) (.ite (fun _ _ => Iff.rfl) (blind_setArmed false) blind_id)

theorem blind_peakTrigger (g : Fin 4) : Blind (peakTrigger g) :=
  .ite (fun _ _ => Iff.rfl) (blind_trigger .peak) blind_id

theorem blind_troughTrigger (g : Fin 4) : Blind (troughTrigger g) :=
  .ite (fun _ _ => Iff.rfl) (blind_trigger .trough) blind_id

theorem blind_judgeWindow (g : Fin 4) : Blind (judgeWindow g) :=
  .forAll fun c ls t => by
    have hc : (withLimits ls t).cracks = t.cracks := rfl
    have hs : (withLimits ls t).crackset = t.crackset := rfl
    cases hy : t.cracks[c] with
    | none => simp only [hc, hy]
    | some y =>
      simp only [hc, hs, hy]
      exact Blind.ite (c := fun _ => y.refGroup = some g) (fun _ _ => Iff.rfl) (blind_putCrack _ _) blind_id ls t

/-! ## The sample set -/

section
variable {i : Fin 24} {l : Limit} {ls : Vector (Option Limit) 24} {n : Nat} {t s : State}

/-- A limit of the ram channels and aux inputs is on no crack record. -/
theorem isCrackOf_of_isPlant (h : l.isPlant = true) (g : Fin 4) : l.isCrackOf g = false := by
  unfold Limit.isPlant at h
  cases hs : l.source <;> simp_all [Limit.isCrackOf]

theorem Runs.cracks (h : Runs i l ls n t s) : s.cracks = t.cracks := by
  rw [show s = _ from h.protects]

/-- An activity window closes without a limit on crack records. -/
theorem Runs.closeWindow_other (h : Runs i l ls 0 t s) (hl : ∀ g, l.isCrackOf g = false) (g : Fin 4) :
    Runs i l ls 0 (closeWindow g t) (closeWindow g s) := by
  have hw := h.blind (blind_judgeWindow g)
  have hn := hw.noticeZones (fun h => h == g) (g := g) fun k _ => hl k
  have hc : cracksChanged s (judgeWindow g s) = cracksChanged t (judgeWindow g t) := by
    simp only [cracksChanged, h.cracks, hw.cracks]
  rw [hl g, if_neg (by simp)] at hn
  rw [closeWindow_eq, closeWindow_eq, hc]
  split
  · exact hn
  · exact hw

theorem Runs.wrapAtCracks_other (h : Runs i l ls 0 t s) (hl : ∀ g, l.isCrackOf g = false) (g : Fin 4) (counted : Bool) :
    Runs i l ls 0 (wrapAtCracks g counted t) (wrapAtCracks g counted s) := by
  have hc : (counted && s.groups[g].lifeCycles % s.crackset.windowCycles == 0) =
      (counted && t.groups[g].lifeCycles % t.crackset.windowCycles == 0) := by
    rw [show s = _ from h.eq]
    rfl
  unfold wrapAtCracks
  rw [hc]
  split
  · exact h.closeWindow_other hl g
  · exact h

theorem Runs.advanceGroup_other (h : Runs i l ls 0 t s) (hl : ∀ g, l.isCrackOf g = false) (g : Fin 4) :
    Runs i l ls 0 (advanceGroup g t) (advanceGroup g s) := by
  obtain rfl : s = withLimits ls t := h.eq
  have hg : (withLimits ls t).groups = t.groups := rfl
  have hst : ∀ n, stepOf g n (withLimits ls t) = stepOf g n t := fun _ => rfl
  simp only [advanceGroup, hg, hst]
  generalize t.groups[g].advance _ _ = y
  obtain ⟨x, e⟩ := y
  have hp := h.blind (blind_putGroup g x)
  cases e with
  | none => exact hp
  | peak => exact hp.blind (blind_peakTrigger g)
  | trough => exact hp.blind (blind_troughTrigger g)
  | wrap => exact hp.wrapAtCracks_other hl g _

theorem Runs.sampleSet (h : Runs i l ls 0 t s) (hl : l.isPlant = true) (hs : t.scanEnds ≠ none)
    (counts : Vector (BitVec 16) 28) : Runs i l ls 1 (sampleSet counts t) (sampleSet counts s) := by
  obtain ⟨e, he⟩ := Option.ne_none_iff_exists'.mp hs
  have he' : s.scanEnds = some e := by rw [show s = _ from h.protects]; exact he
  rw [sampleSet_eq he, sampleSet_eq he']
  have hr := (h.blind (u := atScanEnd e) fun _ _ => rfl).blind (.forAll (blind_takeRam counts))
  have hg := (hr.blind (u := takeAux counts) fun _ _ => rfl).forAll (f := advanceGroup)
    fun g _ _ h => h.advanceGroup_other (isCrackOf_of_isPlant hl) g
  have hw := hg.evalWhere ofSource_isPlant
  rwa [if_pos hl] at hw

end

end Sys2Proof.Machine
end

section
/-! Handovers to the gauge records and completions of rounds, side by side. -/

namespace Sys2Proof.Machine

/-! ## One gauge -/

/-- A GAUGE record replaced, with its mark, before any limit is evaluated (R89). -/
def setGauge (k : Fin 48) (x : Gauge) (s : State) : State :=
  markIf (x.state != s.gauges[k].state) (.gauge k) { s with gauges := s.gauges.set k x }

theorem putGauge_eq (k : Fin 48) (x : Gauge) (s : State) :
    putGauge k x s =
      if x.state = s.gauges[k].state then setGauge k x s else evalWhere (Limit.isGaugeOf k) (setGauge k x s) := by
  unfold putGauge setGauge markIf
  simp only [bne_iff_ne, ne_eq]
  split <;> rfl

theorem Aside.markIf {u : State → State} {b : State → Bool} {i : RecordId} (hb : ∀ o s, b (graft o s) = b o)
    (hi : ∀ o s, mark i (graft o s) = graft (mark i o) s) (hu : Aside u) : Aside fun s => markIf (b s) i (u s) := by
  intro o s
  simp only [Machine.markIf, hb, hu o s, hi]
  split <;> rfl

theorem Aside.ite {u v : State → State} {c : State → Prop} [DecidablePred c] (hc : ∀ o s, c (graft o s) ↔ c o)
    (hu : Aside u) (hv : Aside v) : Aside fun s => if c s then u s else v s := by
  intro o s
  simp only [hc, hu o s, hv o s]
  split <;> rfl

theorem aside_setGauge (k : Fin 48) (x : Gauge) : Aside (setGauge k x) :=
  .markIf (u := fun s => { s with gauges := s.gauges.set k x }) (fun _ _ => rfl) (fun _ _ => rfl) fun _ _ => rfl

theorem gauges_setGauge (k : Fin 48) (x : Gauge) (s : State) : (setGauge k x s).gauges = s.gauges.set k x := by
  simp [setGauge]

theorem hall_setGauge (k : Fin 48) (x : Gauge) (s : State) : (setGauge k x s).hall = s.hall := by
  simp [setGauge]

theorem gauges_putGauge (k : Fin 48) (x : Gauge) (s : State) : (putGauge k x s).gauges = s.gauges.set k x := by
  rw [putGauge_eq]
  split
  · exact gauges_setGauge k x s
  · rw [show evalWhere _ _ = _ from protects_evalWhere _ _]
    exact gauges_setGauge k x s

theorem gauge_putGauge (j k : Fin 48) (x : Gauge) (s : State) :
    (putGauge j x s).gauges[k] = if j = k then x else s.gauges[k] :=
  (congrArg (fun v : Vector Gauge 48 => v[k]) (gauges_putGauge j x s)).trans (getElem_set_fin _ _ _ _)

/-- An event whose limit is on the strain of gauge k. -/
abbrev OnGauge (l : Limit) (k : Fin 48) : Prop := l.source = .gaugeStrain ∧ l.sourceKey = k.val

theorem isGaugeOf_iff {l : Limit} {k : Fin 48} (h : OnGauge l k) (j : Fin 48) : l.isGaugeOf j = true ↔ j = k := by
  simp only [Limit.isGaugeOf, h.1, h.2, Fin.ext_iff, BEq.rfl, Bool.true_and, beq_iff_eq]
  exact eq_comm

section
variable {i : Fin 24} {l : Limit} {ls : Vector (Option Limit) 24} {n : Nat} {t s : State} {k : Fin 48}

theorem Runs.gauges (h : Runs i l ls n t s) : s.gauges = t.gauges := by
  rw [show s = _ from h.protects]

/-- A handover to a gauge that the limit does not watch. -/
theorem Runs.putGauge_other (h : Runs i l ls n t s) (hk : OnGauge l k) {j : Fin 48} (hj : j ≠ k) (x : Gauge) :
    Runs i l ls n (putGauge j x t) (putGauge j x s) := by
  have hs : Runs i l ls n (setGauge j x t) (setGauge j x s) := by
    refine h.aside (aside_setGauge j x) (hall_setGauge j x) fun s _ => ?_
    have hjk : j.val ≠ k.val := fun e => hj (Fin.ext e)
    rw [gauges_setGauge, hk.2]
    simp [hjk]
  have he := hs.evalWhere (ofSource_isGaugeOf j)
  rw [if_neg (fun e => hj ((isGaugeOf_iff hk j).mp e))] at he
  rw [putGauge_eq, putGauge_eq, h.gauges]
  split
  · exact hs
  · exact he

/-- A handover to the gauge watched, before any evaluation (R88). -/
theorem Runs.putGauge_self (h : Runs i l ls 0 t s) (hk : OnGauge l k) (x : Gauge) :
    Runs i l ls (if x.state = t.gauges[k].state then 0 else 1) (putGauge k x t) (putGauge k x s) := by
  have hs := h.blind (aside_setGauge k x).blind
  have he := hs.evalWhere (ofSource_isGaugeOf k)
  rw [if_pos ((isGaugeOf_iff hk k).mpr rfl)] at he
  rw [putGauge_eq, putGauge_eq, h.gauges]
  split
  · exact hs
  · exact he

/-- An operation that leaves the gauges and stands aside of the protection path. -/
theorem Runs.asideGauges (h : Runs i l ls n t s) {u : State → State} (hu : Aside u)
    (hh : ∀ s, (u s).hall = s.hall) (hg : ∀ s, (u s).gauges = s.gauges) : Runs i l ls n (u t) (u s) :=
  h.aside hu hh fun s _ => by rw [hg]

/-! ## The gauges of a pod -/

/-- The enabled gauges of a pod take what f makes of them, in channel order (R81, R84). -/
def handGauges (p : Fin 12) (f : Fin 4 → Gauge → Gauge) (s : State) : State :=
  forAll (fun (c : Fin 4) t =>
    if (t.gauges[gaugeOf p c]).enabled then putGauge (gaugeOf p c) (f c t.gauges[gaugeOf p c]) t else t) s

theorem handRead_eq (p : Fin 12) (flagged : Fin 4 → Bool) (count : Fin 4 → Int) (s : State) :
    handRead p flagged count s =
      let t := handGauges p (fun c g => g.reading (count c) (flagged c)) s
      { t with gpods := t.gpods.set p t.gpods[p].read } := rfl

/-- The miss counted in the GPOD record, before any gauge hears of it (R84). -/
def countMiss (p : Fin 12) (why : MissReason) (s : State) : State :=
  markIf (s.gpods[p].consecutiveMisses == 0) (.gpod p) { s with gpods := s.gpods.set p (s.gpods[p].missed why) }

theorem handMiss_eq (p : Fin 12) (why : MissReason) (s : State) :
    handMiss p why s =
      if s.hall.staleLimit ≤ (s.gpods[p].missed why).consecutiveMisses then
        handGauges p (fun _ => Gauge.aged) (countMiss p why s)
      else countMiss p why s := rfl

theorem aside_countMiss (p : Fin 12) (why : MissReason) : Aside (countMiss p why) :=
  .markIf (u := fun s => { s with gpods := s.gpods.set p (s.gpods[p].missed why) }) (fun _ _ => rfl) (fun _ _ => rfl)
    fun _ _ => rfl

/-- How often the limit on gauge k is evaluated between t and u: once where the gauge's state has changed. -/
def changes (k : Fin 48) (t u : State) : Nat := if u.gauges[k].state = t.gauges[k].state then 0 else 1

theorem changes_of_gauges {u v : State} (h : v.gauges = u.gauges) : changes k t v = changes k t u := by
  unfold changes
  rw [h]

/-- A channel's visit. -/
theorem Runs.handGauge_other (h : Runs i l ls n t s) (hk : OnGauge l k) {j : Fin 48} (hj : j ≠ k) (f : Gauge → Gauge) :
    Runs i l ls n (if (t.gauges[j]).enabled then putGauge j (f t.gauges[j]) t else t)
      (if (s.gauges[j]).enabled then putGauge j (f s.gauges[j]) s else s) := by
  rw [h.gauges]
  split
  · exact h.putGauge_other hk hj _
  · exact h

theorem gauges_handGauge_other {j : Fin 48} (hj : j ≠ k) (f : Gauge → Gauge) (t : State) :
    (if (t.gauges[j]).enabled then putGauge j (f t.gauges[j]) t else t).gauges[k] = t.gauges[k] := by
  split
  · rw [gauge_putGauge, if_neg hj]
  · rfl

theorem gaugeOf_podOf (k : Fin 48) : gaugeOf (podOf k) ⟨k.val % 4, by omega⟩ = k := by
  apply Fin.ext
  simp only [gaugeOf, podOf]
  omega

theorem gaugeOf_inj {p q : Fin 12} {c d : Fin 4} (h : gaugeOf p c = gaugeOf q d) : p = q ∧ c = d := by
  simp only [gaugeOf, Fin.mk.injEq] at h
  omega

/-- A pod's gauges are handed over: the limit is evaluated where the state of its gauge changes (R88). -/
theorem Runs.handGauges (h : Runs i l ls 0 t s) (hk : OnGauge l k) (p : Fin 12) (f : Fin 4 → Gauge → Gauge) :
    Runs i l ls (changes k t (handGauges p f t)) (handGauges p f t) (handGauges p f s) := by
  by_cases hp : p = podOf k
  · subst hp
    have hc (c : Fin 4) (hcd : c ≠ ⟨k.val % 4, by omega⟩) : gaugeOf (podOf k) c ≠ k := fun e =>
      hcd (gaugeOf_inj (e.trans (gaugeOf_podOf k).symm)).2
    refine forAll_beside (R := fun a b => Runs i l ls 0 a b ∧ a.gauges[k] = t.gauges[k])
      (Q := fun a b => Runs i l ls (changes k t a) a b) ⟨k.val % 4, by omega⟩ ?_ ?_ ?_ ⟨h, rfl⟩
    · exact fun c hcd a b ⟨hab, hg⟩ =>
        ⟨hab.handGauge_other hk (hc c hcd) _, (gauges_handGauge_other (hc c hcd) _ a).trans hg⟩
    · intro a b ⟨hab, hg⟩
      simp only [gaugeOf_podOf, hab.gauges]
      split
      · have hx := hab.putGauge_self hk (f ⟨k.val % 4, by omega⟩ a.gauges[k])
        rw [hg] at hx ⊢
        unfold changes
        rwa [gauge_putGauge, if_pos rfl]
      · unfold changes
        rwa [hg, if_pos rfl]
    · intro c hcd a b hab
      have hx := hab.handGauge_other hk (hc c hcd) (f c)
      unfold changes at hx ⊢
      rwa [gauges_handGauge_other (hc c hcd) (f c) a]
  · have hc (c : Fin 4) : gaugeOf p c ≠ k := fun e => hp (gaugeOf_inj (e.trans (gaugeOf_podOf k).symm)).1
    have hr : Runs i l ls 0 (Machine.handGauges p f t) (Machine.handGauges p f s) :=
      h.forAll fun c _ _ h => h.handGauge_other hk (hc c) (f c)
    have hg : (Machine.handGauges p f t).gauges[k] = t.gauges[k] :=
      forAll_invariant (P := fun a => a.gauges[k] = t.gauges[k])
        (fun c a ha => (gauges_handGauge_other (hc c) (f c) a).trans ha) rfl
    unfold changes
    rwa [hg, if_pos rfl]

/-! ## A pod, and the rest of its round -/

/-- The count of a pod handed over as missed (R69). -/
def countRoundMiss (s : State) : State := setRound { s.round with podsMissed := s.round.podsMissed + 1 } s

/-- The count of a pod handed over as read (R69). -/
def countRoundRead (s : State) : State := setRound { s.round with podsRead := s.round.podsRead + 1 } s

theorem gauges_countRoundMiss (s : State) : (countRoundMiss s).gauges = s.gauges := rfl

theorem gauges_countRoundRead (s : State) : (countRoundRead s).gauges = s.gauges := rfl

theorem roundMiss_eq (p : Fin 12) (why : MissReason) (s : State) :
    roundMiss p why s = countRoundMiss (handMiss p why s) := rfl

/-- The pod at the head of the list handed over as its reply is judged (R69), before the round goes on. -/
def podTaken (reply : PodReply) (p : Fin 12) (s : State) : State :=
  match reply with
  | .nack => roundMiss p .noAck s
  | .bits sda =>
    match replyMiss (podBytes sda) with
    | some why => roundMiss p why s
    | none =>
      countRoundRead
        (handRead p (fun c => (replyByte (podBytes sda) 0).testBit c.val) (replyCount (podBytes sda)) s)

theorem podJudged_eq {p : Fin 12} {rest : List (Fin 12)} (h : s.round.todo = p :: rest) (reply : PodReply) :
    podJudged reply s = nextPod (podTaken reply p s) := by
  unfold podJudged podTaken
  rw [h]
  cases reply with
  | nack => rfl
  | bits sda => cases hm : replyMiss (podBytes sda) <;> simp only [hm, countRoundRead]

theorem Runs.handMiss (h : Runs i l ls 0 t s) (hk : OnGauge l k) (p : Fin 12) (why : MissReason) :
    Runs i l ls (changes k t (handMiss p why t)) (handMiss p why t) (handMiss p why s) := by
  have hc := h.blind (aside_countMiss p why).blind
  have hgp : s.gpods = t.gpods := by rw [show s = _ from h.protects]
  have hh : s.hall = t.hall := by rw [show s = _ from h.protects]
  have hcg : (countMiss p why t).gauges = t.gauges := by simp [countMiss]
  rw [handMiss_eq, handMiss_eq, hgp, hh]
  split
  · have hg := hc.handGauges hk p fun _ => Gauge.aged
    unfold changes at hg ⊢
    rwa [hcg] at hg
  · unfold changes
    rwa [hcg, if_pos rfl]

theorem Runs.roundMiss (h : Runs i l ls 0 t s) (hk : OnGauge l k) (p : Fin 12) (why : MissReason) :
    Runs i l ls (changes k t (roundMiss p why t)) (roundMiss p why t) (roundMiss p why s) := by
  rw [roundMiss_eq, roundMiss_eq, changes_of_gauges (gauges_countRoundMiss _)]
  exact (h.handMiss hk p why).asideGauges (fun _ _ => rfl) (fun _ => rfl) gauges_countRoundMiss

theorem Runs.handRead (h : Runs i l ls 0 t s) (hk : OnGauge l k) (p : Fin 12) (flagged : Fin 4 → Bool)
    (count : Fin 4 → Int) :
    Runs i l ls (changes k t (handRead p flagged count t)) (handRead p flagged count t)
      (handRead p flagged count s) := by
  have hg := (h.handGauges hk p fun c g => g.reading (count c) (flagged c)).asideGauges
    (u := fun t => { t with gpods := t.gpods.set p t.gpods[p].read }) (fun _ _ => rfl) (fun _ => rfl) fun _ => rfl
  rw [handRead_eq, handRead_eq]
  exact hg

theorem Runs.podTaken (h : Runs i l ls 0 t s) (hk : OnGauge l k) (reply : PodReply) (p : Fin 12) :
    Runs i l ls (changes k t (podTaken reply p t)) (podTaken reply p t) (podTaken reply p s) := by
  unfold Machine.podTaken
  cases reply with
  | nack => exact h.roundMiss hk p .noAck
  | bits sda =>
    simp only
    split
    · exact h.roundMiss hk p _
    · rw [changes_of_gauges (gauges_countRoundRead _)]
      exact (h.handRead hk p _ _).asideGauges (fun _ _ => rfl) (fun _ => rfl) gauges_countRoundRead

/-- A handover leaves the pods of the round. -/
theorem podTaken_round (reply : PodReply) (p : Fin 12) (s : State) :
    (podTaken reply p s).round.todo = s.round.todo ∧ (podTaken reply p s).round.pods = s.round.pods := by
  have hm (why : MissReason) :
      (roundMiss p why s).round.todo = s.round.todo ∧ (roundMiss p why s).round.pods = s.round.pods := by
    have hr : (handMiss p why s).round = s.round := by rw [show handMiss p why s = _ from hands_handMiss p why s]
    simp [roundMiss_eq, countRoundMiss, setRound, hr]
  unfold podTaken
  cases reply with
  | nack => exact hm .noAck
  | bits sda =>
    simp only
    split
    · exact hm _
    · have hr (o c) : (handRead p o c s).round = s.round := by
        rw [show handRead p o c s = _ from hands_handRead p o c s]
      simp [countRoundRead, setRound, hr]

theorem aside_writeSummary (aborted : Bool) : Aside (writeSummary aborted) :=
  .markIf (b := fun _ => aborted) (fun _ _ => rfl) (fun _ _ => rfl) fun _ _ => rfl

theorem aside_endRound : Aside endRound :=
  .ite (u := fun s => setRound { s.round with restFlag := true } (setPlan { s.plan with roundState := .idle } s))
    (v := fun s => setPlan { s.plan with roundState := .idle } s) (fun _ _ => Iff.rfl) (fun _ _ => rfl) fun _ _ => rfl

theorem isGaugeOfPods_iff (hk : OnGauge l k) (ps : List (Fin 12)) : l.isGaugeOfPods ps = true ↔ podOf k ∈ ps := by
  simp only [Limit.isGaugeOfPods, hk.1, hk.2, BEq.rfl, Bool.true_and, List.any_eq_true, beq_iff_eq]
  constructor
  · rintro ⟨p, hp, h⟩
    rwa [show podOf k = p from Fin.ext h]
  · exact fun h => ⟨podOf k, h, rfl⟩

/-- A completion evaluates the limit where its gauge's pod is in the round (R71). -/
theorem Runs.completeRound (h : Runs i l ls n t s) (hk : OnGauge l k) (aborted : Bool) :
    Runs i l ls (if podOf k ∈ t.round.pods then n + 1 else n) (completeRound aborted t) (completeRound aborted s) := by
  have hr : s.round = t.round := by rw [show s = _ from h.protects]
  have hw := h.asideGauges (aside_writeSummary aborted) (fun _ => by simp [writeSummary]) fun _ => by simp [writeSummary]
  have he := (hw.evalWhere (ofSource_isGaugeOfPods t.round.pods)).asideGauges aside_endRound
    (fun _ => by unfold endRound; split <;> rfl) fun _ => by unfold endRound; split <;> rfl
  rw [completeRound_eq, completeRound_eq, hr]
  simpa only [isGaugeOfPods_iff hk] using he

/-- The pod being read leaves the list of those to come (R70). -/
def dropPod (s : State) : State := setRound { s.round with todo := s.round.todo.tail } s

/-- The next read begins (R68). -/
def beginRead (s : State) : State :=
  setRound (busBegin (startTime s) s.round) (setPlan { s.plan with roundState := .read } s)

theorem nextPod_eq (s : State) :
    nextPod s = if s.round.todo.tail.isEmpty then Machine.completeRound false (dropPod s) else beginRead (dropPod s) := rfl

/-- The round goes on after a pod, or completes (R70, R71). -/
theorem Runs.nextPod (h : Runs i l ls n t s) (hk : OnGauge l k) {p : Fin 12} {rest : List (Fin 12)}
    (ht : t.round.todo = p :: rest) :
    Runs i l ls (if rest = [] ∧ podOf k ∈ t.round.pods then n + 1 else n) (nextPod t) (nextPod s) := by
  have hr : s.round = t.round := by rw [show s = _ from h.protects]
  have hd := h.asideGauges (u := dropPod) (fun _ _ => rfl) (fun _ => rfl) fun _ => rfl
  rw [nextPod_eq, nextPod_eq, hr, ht, List.tail_cons]
  cases rest with
  | nil =>
    have hn : (if ([] : List (Fin 12)) = [] ∧ podOf k ∈ t.round.pods then n + 1 else n) =
        if podOf k ∈ (dropPod t).round.pods then n + 1 else n := if_congr (by simp [dropPod, setRound]) rfl rfl
    rw [hn]
    simp only [List.isEmpty_nil, if_true]
    exact hd.completeRound hk false
  | cons q rest => simpa using hd.asideGauges (u := beginRead) (fun _ _ => rfl) (fun _ => rfl) fun _ => rfl

theorem gauges_nextPod (s : State) : (Machine.nextPod s).gauges = s.gauges := by
  rw [nextPod_eq]
  split
  · rw [completeRound_eq]
    have he (x : State) : (endRound x).gauges = x.gauges := by unfold endRound; split <;> rfl
    rw [he, show evalWhere _ _ = _ from protects_evalWhere _ _]
    simp [writeSummary, dropPod, setRound]
  · rfl

end

end Sys2Proof.Machine
end

section
/-! Changes of crack records and their zone change notices, side by side. -/

namespace Sys2Proof.Machine

/-! ## The record nearest to a position (R127) -/

/-- What a search of slots ds for the record nearest to x has found: none, or a slot with its distance, the lowest among
equals. -/
def NearestIn (x : Int) (s : State) (ds : List (Fin 32)) : Option (Fin 32 × Nat) → Prop
  | none => ∀ d ∈ ds, s.cracks[d] = none
  | some (c, n) =>
    (∃ y, s.cracks[c] = some y ∧ (x - y.xMm).natAbs = n) ∧ c ∈ ds ∧
      ∀ d ∈ ds, ∀ z, s.cracks[d] = some z → n < (x - z.xMm).natAbs ∨ (n = (x - z.xMm).natAbs ∧ c ≤ d)

/-- One slot of the search. -/
def searchSlot (x : Int) (s : State) (best : Option (Fin 32 × Nat)) (c : Fin 32) : Option (Fin 32 × Nat) :=
  match s.cracks[c], best with
  | none, b => b
  | some y, none => some (c, (x - y.xMm).natAbs)
  | some y, some (d, n) => if (x - y.xMm).natAbs < n then some (c, (x - y.xMm).natAbs) else some (d, n)

theorem nearestCrack_eq (x : Int) (s : State) : nearestCrack x s = (List.finRange 32).foldl (searchSlot x s) none := rfl

theorem nearestIn_searchSlot {x : Int} {s : State} {ds : List (Fin 32)} {b : Option (Fin 32 × Nat)}
    (h : NearestIn x s ds b) {c : Fin 32} (hc : ∀ d ∈ ds, d < c) : NearestIn x s (ds ++ [c]) (searchSlot x s b c) := by
  cases hy : s.cracks[c] with
  | none =>
    have hs : searchSlot x s b c = b := by simp only [searchSlot, hy]
    rw [hs]
    cases b with
    | none =>
      intro d hd
      rcases List.mem_append.mp hd with hd | hd
      · exact h d hd
      · rw [List.mem_singleton.mp hd, hy]
    | some p =>
      obtain ⟨hp, hm, hn⟩ := h
      refine ⟨hp, List.mem_append_left _ hm, fun d hd z hz => ?_⟩
      rcases List.mem_append.mp hd with hd | hd
      · exact hn d hd z hz
      · rw [List.mem_singleton.mp hd, hy] at hz
        cases hz
  | some y =>
    have hlast {d : Fin 32} {z : Crack} (hd : d ∈ [c]) (hz : s.cracks[d] = some z) : d = c ∧ z = y := by
      obtain rfl := List.mem_singleton.mp hd
      exact ⟨rfl, Option.some.inj (hz.symm.trans hy)⟩
    cases b with
    | none =>
      have hs : searchSlot x s none c = some (c, (x - y.xMm).natAbs) := by simp only [searchSlot, hy]
      rw [hs]
      refine ⟨⟨y, hy, rfl⟩, by simp, fun d hd z hz => ?_⟩
      rcases List.mem_append.mp hd with hd | hd
      · rw [h d hd] at hz
        cases hz
      · obtain ⟨rfl, rfl⟩ := hlast hd hz
        exact .inr ⟨rfl, le_refl _⟩
    | some p =>
      obtain ⟨e, n⟩ := p
      obtain ⟨hp, hm, hn⟩ := h
      have hs : searchSlot x s (some (e, n)) c =
          if (x - y.xMm).natAbs < n then some (c, (x - y.xMm).natAbs) else some (e, n) := by
        simp only [searchSlot, hy]
      rw [hs]
      split
      next hlt =>
        refine ⟨⟨y, hy, rfl⟩, by simp, fun d hd z hz => ?_⟩
        rcases List.mem_append.mp hd with hd | hd
        · have := hn d hd z hz
          exact .inl (by omega)
        · obtain ⟨rfl, rfl⟩ := hlast hd hz
          exact .inr ⟨rfl, le_refl _⟩
      next hge =>
        refine ⟨hp, List.mem_append_left _ hm, fun d hd z hz => ?_⟩
        rcases List.mem_append.mp hd with hd | hd
        · exact hn d hd z hz
        · obtain ⟨rfl, rfl⟩ := hlast hd hz
          have := hc e hm
          omega

theorem nearestIn_foldl {x : Int} {s : State} (rest : List (Fin 32)) : ∀ {ds : List (Fin 32)} {b : Option (Fin 32 × Nat)},
    (ds ++ rest).Pairwise (· < ·) → NearestIn x s ds b →
      NearestIn x s (ds ++ rest) (rest.foldl (searchSlot x s) b) := by
  induction rest with
  | nil => exact fun _ h => by rwa [List.append_nil]
  | cons c rest ih =>
    intro ds b hs h
    have hc : ∀ d ∈ ds, d < c := fun d hd => (List.pairwise_append.mp hs).2.2 d hd c List.mem_cons_self
    have hassoc : ds ++ c :: rest = ds ++ [c] ++ rest := by simp
    rw [hassoc] at hs ⊢
    exact ih hs (nearestIn_searchSlot h hc)

theorem nearestIn_nearestCrack (x : Int) (s : State) : NearestIn x s (List.finRange 32) (nearestCrack x s) := by
  rw [nearestCrack_eq]
  exact nearestIn_foldl (ds := []) (List.finRange 32) (List.pairwise_lt_finRange 32) fun _ h => nomatch h

/-- The slot that is nearer than every other, or as near and lower, is the one found. -/
theorem nearestCrack_of_nearest {x : Int} {s : State} {c : Fin 32} {y : Crack} (hy : s.cracks[c] = some y)
    (h : ∀ (d : Fin 32) z, s.cracks[d] = some z →
      (x - y.xMm).natAbs < (x - z.xMm).natAbs ∨ ((x - y.xMm).natAbs = (x - z.xMm).natAbs ∧ c ≤ d)) :
    nearestCrack x s = some (c, (x - y.xMm).natAbs) := by
  have hn := nearestIn_nearestCrack x s
  cases hb : nearestCrack x s with
  | none =>
    rw [hb] at hn
    exact absurd (hy.symm.trans (hn c (List.mem_finRange c))) nofun
  | some p =>
    obtain ⟨e, n⟩ := p
    rw [hb] at hn
    obtain ⟨⟨z, hz, rfl⟩, -, hmin⟩ := hn
    have h1 := h e z hz
    have h2 := hmin c (List.mem_finRange c) y hy
    obtain rfl : e = c := by omega
    rw [Option.some.inj (hz.symm.trans hy)]

/-- No record within a radius: the search finds none in reach. -/
theorem nearestCrack_beyond {x : Int} {s : State} {radius : Nat}
    (h : ∀ (d : Fin 32) z, s.cracks[d] = some z → radius < (x - z.xMm).natAbs) {c : Fin 32} {n : Nat}
    (hb : nearestCrack x s = some (c, n)) : radius < n := by
  have hn := nearestIn_nearestCrack x s
  rw [hb] at hn
  obtain ⟨⟨z, hz, rfl⟩, -⟩ := hn
  exact h c z hz

/-! ## Located events (R127 to R130) -/

/-- The record that a located event leaves where it joins y (R128, R129). -/
def joined (x : Int) (amp : Nat) (y : Crack) (s : State) : Crack := (y.join x amp fun m => zoneOf m s).confirm s

theorem refGroup_confirm (y : Crack) (s : State) : (y.confirm s).refGroup = y.refGroup := by
  unfold Crack.confirm
  split <;> rfl

theorem refGroup_joined (x : Int) (amp : Nat) (y : Crack) (s : State) :
    (joined x amp y s).refGroup =
      zoneOf (roundDiv (y.xq + roundDiv (16 * x - y.xq) (min (satInc 65535 y.events) 256)) 16) s :=
  refGroup_confirm _ _

theorem locatedEvent_joins {x : Int} {s : State} {c : Fin 32} {y : Crack} {n : Nat} (hn : nearestCrack x s = some (c, n))
    (hr : n ≤ s.crackset.radiusMm) (hy : s.cracks[c] = some y) (amp cycle : Nat) :
    locatedEvent x amp cycle s =
      noticeRefs [y.refGroup, (joined x amp y s).refGroup] (putCrack c (some (joined x amp y s)) s) := by
  simp only [locatedEvent, hn, hr, if_true, hy, joined]

theorem locatedEvent_creates {x : Int} {s : State} {c : Fin 32} (h : ∀ c n, nearestCrack x s = some (c, n) →
    s.crackset.radiusMm < n) (hf : freeSlot s = some c) (amp cycle : Nat) :
    locatedEvent x amp cycle s =
      noticeRefs [zoneOf x s] (putCrack c (some (newCrack x amp cycle (zoneOf x s))) s) := by
  have hc : createCrack x amp cycle s =
      noticeRefs [zoneOf x s] (putCrack c (some (newCrack x amp cycle (zoneOf x s))) s) := by
    simp only [createCrack, hf]
  cases hn : nearestCrack x s with
  | none => simp only [locatedEvent, hn, hc]
  | some p =>
    obtain ⟨d, n⟩ := p
    simp only [locatedEvent, hn, if_neg (Nat.not_le.mpr (h d n hn)), hc]

theorem freeSlot_isSome {s : State} {c : Fin 32} (h : s.cracks[c] = none) : ∃ d, freeSlot s = some d := by
  refine Option.isSome_iff_exists.mp ?_
  unfold freeSlot
  rw [List.find?_isSome]
  exact ⟨c, List.mem_finRange c, by rw [h]; rfl⟩

/-! ## Notices side by side -/

/-- A limit on the crack records of group g's zone. -/
abbrev OnZone (l : Limit) (g : Fin 4) : Prop := (l.source = .crackCount ∨ l.source = .crackWidth) ∧ l.sourceKey = g.val

theorem isCrackOf_iff {l : Limit} {g : Fin 4} (h : OnZone l g) (k : Fin 4) : l.isCrackOf k = true ↔ k = g := by
  obtain ⟨hs, hk⟩ := h
  have hb : (l.source == .crackCount || l.source == .crackWidth) = true := by
    rcases hs with hs | hs <;> rw [hs] <;> rfl
  simp only [Limit.isCrackOf, hb, hk, Bool.true_and, beq_iff_eq, Fin.ext_iff]
  exact eq_comm

section
variable {i : Fin 24} {l : Limit} {ls : Vector (Option Limit) 24} {n : Nat} {t s : State} {g : Fin 4}

/-- A zone change notice for the limit's group evaluates it (R142). -/
theorem Runs.noticeZones_zone (h : Runs i l ls n t s) (hz : OnZone l g) {c : Fin 4 → Bool} (hc : c g = true) :
    Runs i l ls (n + 1) (Machine.noticeZones c t) (Machine.noticeZones c s) := by
  have hn := h.noticeZones c (g := g) fun k hk => by
    rw [Bool.eq_false_iff]
    exact fun e => hk ((isCrackOf_iff hz k).mp e)
  rwa [if_pos ⟨hc, (isCrackOf_iff hz g).mpr rfl⟩] at hn

theorem Runs.noticeRefs (h : Runs i l ls n t s) (hz : OnZone l g) {refs : List (Option (Fin 4))} (hr : some g ∈ refs) :
    Runs i l ls (n + 1) (Machine.noticeRefs refs t) (Machine.noticeRefs refs s) :=
  h.noticeZones_zone hz (by simpa using hr)

theorem Runs.putCrack (h : Runs i l ls 0 t s) (c : Fin 32) (x : Option Crack) :
    Runs i l ls 0 (Machine.putCrack c x t) (Machine.putCrack c x s) := h.blind (blind_putCrack c x)

theorem Runs.closeWindow (h : Runs i l ls 0 t s) (hz : OnZone l g) (hc : cracksChanged t (judgeWindow g t) = true) :
    Runs i l ls 1 (Machine.closeWindow g t) (Machine.closeWindow g s) := by
  have hw := h.blind (blind_judgeWindow g)
  have hcs : cracksChanged s (judgeWindow g s) = true := by
    simp only [cracksChanged, h.cracks, hw.cracks]
    exact hc
  rw [closeWindow_eq, closeWindow_eq, if_pos hc, if_pos hcs]
  exact hw.noticeZones_zone hz (by simp)

theorem Runs.locatedEvent_join (h : Runs i l ls 0 t s) (hz : OnZone l g) {x : Int} {c : Fin 32} {y : Crack} {d : Nat}
    (hn : nearestCrack x t = some (c, d)) (hr : d ≤ t.crackset.radiusMm) (hy : t.cracks[c] = some y) (amp cycle : Nat)
    (hg : y.refGroup = some g ∨ (joined x amp y t).refGroup = some g) :
    Runs i l ls 1 (locatedEvent x amp cycle t) (locatedEvent x amp cycle s) := by
  have hm : some g ∈ [y.refGroup, (joined x amp y t).refGroup] := by
    simpa only [List.mem_cons, List.not_mem_nil, or_false, eq_comm] using hg
  have hp := (h.putCrack c (some (joined x amp y t))).noticeRefs hz hm
  obtain rfl : s = withLimits ls t := h.eq
  rw [locatedEvent_joins hn hr hy, locatedEvent_joins (s := withLimits ls t) hn hr hy]
  exact hp

theorem Runs.locatedEvent_create (h : Runs i l ls 0 t s) (hz : OnZone l g) {x : Int} {c : Fin 32}
    (hn : ∀ c n, nearestCrack x t = some (c, n) → t.crackset.radiusMm < n) (hf : freeSlot t = some c) (amp cycle : Nat)
    (hg : zoneOf x t = some g) : Runs i l ls 1 (locatedEvent x amp cycle t) (locatedEvent x amp cycle s) := by
  have hp := (h.putCrack c (some (newCrack x amp cycle (zoneOf x t)))).noticeRefs hz
    (refs := [zoneOf x t]) (by rw [hg]; exact List.mem_singleton_self _)
  obtain rfl : s = withLimits ls t := h.eq
  rw [locatedEvent_creates hn hf, locatedEvent_creates (s := withLimits ls t) hn hf]
  exact hp

end

end Sys2Proof.Machine
end

section
/-! The requests and events of Table 9-2, side by side. -/

namespace Sys2Proof.Machine

/-! ## WRITE requests -/

/-- A WRITE under any name, of an existing record: the owner applies it, or nothing but the port changes (R172, R178). -/
theorem exec_write_cases {c : Instr} {kind key : Byte} {items : List Byte} {r : RecordId} {s u : State}
    (hc : asTaken c = .write kind key items) (hr : recordOf kind key = some r) (hu : exec c s = .next u) :
    u = { s with port := u.port } ∨
      ∃ pairs, Passes c r items pairs s ∧ relationRefusal s r pairs = none ∧ u = answer ok (applyWrite r pairs s) := by
  rw [exec_asTaken_write hc] at hu
  by_cases hreset : s.inReset = true
  · rw [request, event_inReset hreset] at hu
    obtain rfl := Host.Outcome.next.inj hu
    exact .inl rfl
  · have hout := Bool.eq_false_iff.mpr hreset
    by_cases hw : InWork c s
    · have hd : Due c s := ⟨hout, hw⟩
      rw [request_due hd] at hu
      obtain rfl := Host.Outcome.next.inj hu
      simp only [writeRecord, hr]
      split
      · exact .inl rfl
      next hi =>
        split
        · exact .inl rfl
        next pairs hp =>
          split
          · exact .inl rfl
          next hrel => exact .inr ⟨pairs, ⟨hd, by simpa using hi, hp⟩, hrel, rfl⟩
    · rw [request, event_out hout, takeRequest_not_inWork _ hw] at hu
      obtain rfl := Host.Outcome.next.inj hu
      exact .inl (portCheck_eq s)

/-- An accepted WRITE. -/
theorem exec_write_accepted {c : Instr} {kind key : Byte} {items : List Byte} {r : RecordId} {pairs : List (Nat × Int)}
    {s : State} (hc : asTaken c = .write kind key items) (hr : recordOf kind key = some r) (hp : Passes c r items pairs s)
    (hrel : relationRefusal s r pairs = none) : exec c s = .next (answer ok (applyWrite r pairs s)) := by
  obtain ⟨hd, hi, hch⟩ := hp
  rw [exec_asTaken_write hc, request_due hd]
  simp [writeRecord, hr, hi, hch, hrel]

theorem checkPairs_congr {s t : State} {r : RecordId} (h : ∀ f, letsWrite s r f = letsWrite t r f) (n : Nat)
    (seen : List (Nat × Int)) (items : List Byte) : checkPairs s r n seen items = checkPairs t r n seen items := by
  induction n generalizing seen items with
  | zero => cases items <;> rfl
  | succ n ih =>
    cases items with
    | nil => rfl
    | cons f rest => simp only [checkPairs, checkPair, h, ih]

/-- The pair checks of a WRITE of another record than a LIMIT do not see the limit table. -/
theorem passes_of_withoutLimit {i : Fin 24} {c : Instr} {r : RecordId} {items : List Byte} {pairs : List (Nat × Int)}
    {s : State} (hl : ∀ f, letsWrite s r f = letsWrite (withoutLimit i s) r f)
    (h : Passes c r items pairs (withoutLimit i s)) : Passes c r items pairs s := by
  obtain ⟨hd, hi, hc⟩ := h
  exact ⟨hd, hi, (checkPairs_congr hl _ _ _).trans hc⟩

theorem recordOf_group (g : Fin 4) : recordOf 2 (byte g.val) = some (.group g) := by
  refine recordOf_of_pair ?_
  rw [byte_toNat (by omega)]
  rfl

theorem recordOf_gauge (k : Fin 48) : recordOf 5 (byte k.val) = some (.gauge k) := by
  refine recordOf_of_pair ?_
  rw [byte_toNat (by omega)]
  rfl

theorem asTaken_groupWrite {c : Instr} {g : Fin 4} {items : List Byte} (h : IsGroupWrite c g items) :
    asTaken c = .write 2 (byte g.val) items := by
  rcases h with rfl | rfl | rfl | rfl <;> rfl

theorem asTaken_gaugeWrite {c : Instr} {k : Fin 48} {items : List Byte} (h : IsGaugeWrite c k items) :
    asTaken c = .write 5 (byte k.val) items := by
  rcases h with rfl | rfl | rfl <;> rfl

/-! ## Requests side by side -/

theorem aside_answer (r : Response) : Aside (answer r) := fun _ _ => rfl

section
variable {i : Fin 24} {l : Limit} {ls : Vector (Option Limit) 24} {n : Nat} {t s : State}

theorem Runs.answer (h : Runs i l ls n t s) (r : Response) : Runs i l ls n (answer r t) (answer r s) :=
  h.asideGauges (aside_answer r) (fun _ => rfl) fun _ => rfl

/-- A request in work whose owner gives one answer in both runs, and one evaluation. -/
theorem Runs.execEvaluates {c : Instr} {body : State → Response × State} {r : Response} {u v : State}
    (hc : ∀ s, exec c s = request c body s) (hd : Due c s) (hu : body (withoutLimit i s) = (r, u)) (hv : body s = (r, v))
    (h : Runs i l s.limits 1 u v) : ExecEvaluates c i s := by
  have hd' : Due c (withoutLimit i s) := hd
  refine ⟨Machine.answer r u, ?_, ?_⟩
  · rw [hc, request_due hd', hu]
  · rw [hc, request_due hd, hv]
    exact congrArg Host.Outcome.next (h.answer r).eq

/-! ## Requests of the crack table -/

theorem onCrack_byte {c : Fin 32} {y : Crack} (hy : s.cracks[c] = some y)
    (f : Fin 32 → Crack → State → Response × State) : onCrack (byte c.val) f s = f c y s := by
  have hb : (byte c.val).toNat = c.val := byte_toNat (by omega)
  have hlt : (byte c.val).toNat < 32 := by omega
  have hc : (⟨(byte c.val).toNat, hlt⟩ : Fin 32) = c := Fin.ext hb
  have hy' : s.cracks[(byte c.val).toNat] = some y := by
    simp only [hb]
    exact hy
  simp only [onCrack, hlt, dif_pos, hy', hc]

/-- A crack request that writes slot c and hands the notice for its record's group. -/
theorem execEvaluates_noticed {c : Instr} {slot : Fin 32} {y : Crack} {g : Fin 4}
    {f : Fin 32 → Crack → State → Response × State} {x : Option Crack} (ho : OnlyLimit s i l) (hz : OnZone l g)
    (hc : ∀ s, exec c s = request c (onCrack (byte slot.val) f) s) (hd : Due c s) (hy : s.cracks[slot] = some y)
    (hg : y.refGroup = some g) (hf : ∀ a, a.groups = s.groups → f slot y a = (ok, noticeRefs [y.refGroup] (putCrack slot x a))) :
    ExecEvaluates c i s := by
  have hr := ((Runs.start ho).putCrack slot x).noticeRefs hz (refs := [y.refGroup])
    (by rw [hg]; exact List.mem_singleton_self _)
  refine Runs.execEvaluates (r := ok) hc hd ?_ ?_ hr
  · exact (onCrack_byte (s := withoutLimit i s) hy f).trans (hf _ rfl)
  · exact (onCrack_byte hy f).trans (hf s rfl)

theorem ackRequest_unacknowledged {y : Crack} (h : y.acknowledged = false) (c : Fin 32) (s : State) :
    ackRequest c y s = (ok, noticeRefs [y.refGroup] (putCrack c (some { y with acknowledged := true }) s)) :=
  if_neg (by rw [h]; decide)

theorem widthRequest_accepted {width : BitVec 16} (h : width.toNat ≤ 10000) (c : Fin 32) (y : Crack) {a s : State}
    (ha : a.groups = s.groups) :
    widthRequest width c y a =
      (ok, noticeRefs [y.refGroup] (putCrack c
        (some { y with width := some { width := width.toNat, inspectedCycle := lifeOf y.refGroup s } }) a)) := by
  have hl : lifeOf y.refGroup a = lifeOf y.refGroup s := by simp only [lifeOf, ha]
  rw [widthRequest, if_neg (Nat.not_lt.mpr h), hl]

/-- A merge of two live records, into the slot of lower index. -/
theorem mergeRequest_eq {a b : Fin 32} {x y : Crack} (hab : a ≠ b) (hx : s.cracks[a] = some x)
    (hy : s.cracks[b] = some y) :
    mergeRequest (byte a.val) (byte b.val) s =
      (ok, if a < b then mergeCracks a b x y s else mergeCracks b a y x s) := by
  rw [mergeRequest, onCrack_byte hx, onCrack_byte hy, if_neg hab]
  split <;> rfl

theorem refGroup_merge (a b : Crack) (ref : Int → Option (Fin 4)) :
    (a.merge b ref).refGroup = ref (roundDiv (roundDiv (a.xq * a.events + b.xq * b.events) (a.events + b.events)) 16) :=
  rfl

theorem Runs.mergeCracks (h : Runs i l ls 0 t s) {g : Fin 4} (hz : OnZone l g) (lo hi : Fin 32) (x y : Crack)
    (hg : x.refGroup = some g ∨ y.refGroup = some g ∨
      zoneOf (roundDiv (roundDiv (x.xq * x.events + y.xq * y.events) (x.events + y.events)) 16) t = some g) :
    Runs i l ls 1 (mergeCracks lo hi x y t) (mergeCracks lo hi x y s) := by
  obtain rfl : s = withLimits ls t := h.eq
  have hm : some g ∈ [x.refGroup, y.refGroup, ((x.merge y fun m => zoneOf m t).confirm t).refGroup] := by
    rw [refGroup_confirm, refGroup_merge]
    simpa only [List.mem_cons, List.not_mem_nil, or_false, eq_comm] using hg
  have hp := (h.putCrack lo (some ((x.merge y fun m => zoneOf m t).confirm t))).putCrack hi none
  have hk := (hp.blind (u := mark (.crack hi)) fun _ _ => rfl).blind (u := mark (.crack lo)) fun _ _ => rfl
  exact hk.noticeRefs hz hm

/-! ## WRITE requests side by side -/

/-- Every live record's ref group computed anew, before any notice (R126). -/
def rebound (s : State) : State :=
  { s with cracks := mapBank (fun _ x => x.map fun y => { y with refGroup := zoneOf y.xMm s }) s.cracks }

/-- The ref group of slot c, or none. -/
def refOf (s : State) (c : Fin 32) : Option (Fin 4) := (s.cracks[c]).bind (·.refGroup)

/-- Group g is concerned by some slot's change of ref group between two states (R142). -/
def rebinds (s t : State) (g : Fin 4) : Bool :=
  (List.finRange 32).any fun c => refOf s c != refOf t c && (refOf s c == some g || refOf t c == some g)

theorem recomputeRefs_eq (s : State) : recomputeRefs s = noticeZones (rebinds s (rebound s)) (rebound s) := rfl

theorem cracks_recomputeRefs (s : State) : (recomputeRefs s).cracks = (rebound s).cracks := by
  rw [recomputeRefs_eq, show noticeZones _ _ = _ from protects_noticeZones _ _]

theorem Runs.writeGroup (h : Runs i l ls 0 t s) {g : Fin 4} (hz : OnZone l g) (k : Fin 4) (pairs : List (Nat × Int))
    {d : Fin 32} (hne : refOf (writeGroup k pairs t) d ≠ refOf t d)
    (hg : refOf t d = some g ∨ refOf (writeGroup k pairs t) d = some g) :
    Runs i l ls 1 (writeGroup k pairs t) (writeGroup k pairs s) := by
  have hp := h.blind (blind_putGroup k (t.groups[k].written pairs))
  have hkeep : refOf (putGroup k (t.groups[k].written pairs) t) d = refOf t d := by simp [refOf]
  unfold Machine.writeGroup at hne hg ⊢
  rw [show s.groups = t.groups by rw [show s = _ from h.eq]; rfl]
  simp only at hne hg ⊢
  generalize putGroup k (t.groups[k].written pairs) t = a at *
  generalize putGroup k (t.groups[k].written pairs) s = b at *
  split at hne
  next hn =>
    rw [if_pos hn] at hg ⊢
    rw [if_pos hn]
    have hrc : refOf (recomputeRefs a) d = refOf (rebound a) d := by unfold refOf; rw [cracks_recomputeRefs]
    have hc : rebinds a (rebound a) g = true := by
      rw [hrc] at hne hg
      refine List.any_eq_true.mpr ⟨d, List.mem_finRange d, ?_⟩
      rw [hkeep]
      simp only [Bool.and_eq_true, Bool.or_eq_true, bne_iff_ne, beq_iff_eq]
      exact ⟨hne.symm, hg⟩
    have hr := (hp.blind (u := rebound) fun _ _ => rfl).noticeZones_zone hz hc
    obtain rfl : b = withLimits ls a := hp.eq
    exact hr
  next => exact absurd hkeep hne

theorem Runs.putGauge_changed (h : Runs i l ls 0 t s) {k : Fin 48} (hk : OnGauge l k) {x : Gauge}
    (hne : (putGauge k x t).gauges[k].state ≠ t.gauges[k].state) :
    Runs i l ls 1 (putGauge k x t) (putGauge k x s) := by
  have hp := h.putGauge_self hk x
  rw [gauge_putGauge, if_pos rfl] at hne
  rwa [if_neg hne] at hp

/-- The misses of a pod with no gauge enabled are forgotten (R79). -/
def forgetMisses (p : Fin 12) (s : State) : State :=
  if podInUse p s then s
  else { s with gpods := s.gpods.set p { s.gpods[p] with consecutiveMisses := 0 } }

theorem aside_forgetMisses (p : Fin 12) : Aside (forgetMisses p) :=
  .ite (u := fun s => s) (v := fun s => { s with gpods := s.gpods.set p { s.gpods[p] with consecutiveMisses := 0 } })
    (c := fun s => podInUse p s = true) (fun _ _ => Iff.rfl) (fun _ _ => rfl) fun _ _ => rfl

theorem gauges_forgetMisses (p : Fin 12) (s : State) : (forgetMisses p s).gauges = s.gauges := by
  unfold forgetMisses
  split <;> rfl

theorem hall_forgetMisses (p : Fin 12) (s : State) : (forgetMisses p s).hall = s.hall := by
  unfold forgetMisses
  split <;> rfl

/-- A WRITE of a GAUGE hands its record over once, and a disable may forget the pod's misses (R79). -/
theorem writeGauge_eq (k : Fin 48) (pairs : List (Nat × Int)) (g : Gauge) :
    ∃ x, (∀ s, s.gauges[k] = g → writeGauge k pairs s = putGauge k x s) ∨
      ∀ s, s.gauges[k] = g → writeGauge k pairs s = forgetMisses (podOf k) (putGauge k x s) := by
  cases hc : carried 1 pairs with
  | none => exact ⟨_, .inl fun s hs => by simp only [Machine.writeGauge, hc, hs]; rfl⟩
  | some v =>
    by_cases hv : v = 1
    · exact ⟨if g.enabled then putAll Gauge.put pairs g else (putAll Gauge.put pairs g).enable,
        .inl fun s hs => by simp only [Machine.writeGauge, hc, hs, hv, if_true]⟩
    · by_cases he : g.enabled = true
      · exact ⟨(putAll Gauge.put pairs g).disable,
          .inr fun s hs => by simp only [Machine.writeGauge, hc, hs, hv, he, if_true, if_false]; rfl⟩
      · exact ⟨putAll Gauge.put pairs g, .inl fun s hs => by simp only [Machine.writeGauge, hc, hs, hv, he, if_false]; rfl⟩

theorem Runs.writeGauge (h : Runs i l ls 0 t s) {k : Fin 48} (hk : OnGauge l k) (pairs : List (Nat × Int))
    (hne : (writeGauge k pairs t).gauges[k].state ≠ t.gauges[k].state) :
    Runs i l ls 1 (writeGauge k pairs t) (writeGauge k pairs s) := by
  have hs : s.gauges[k] = t.gauges[k] := congrArg (fun v : Vector Gauge 48 => v[k]) h.gauges
  obtain ⟨x, hw | hw⟩ := writeGauge_eq k pairs t.gauges[k]
  · rw [hw t rfl] at hne ⊢
    rw [hw s hs]
    exact h.putGauge_changed hk hne
  · rw [hw t rfl] at hne ⊢
    rw [hw s hs]
    refine (h.putGauge_changed hk ?_).asideGauges (aside_forgetMisses _) (hall_forgetMisses _) (gauges_forgetMisses _)
    exact fun e => hne ((congrArg (fun v : Vector Gauge 48 => v[k].state) (gauges_forgetMisses _ _)).trans e)

end

end Sys2Proof.Machine
end

section
/-! The limit, told of the only one defined, at each event of Table 9-2. -/

namespace Sys2Proof.Machine

/-- The bus after a pod read: the clock at its end, and its STOP sent (R60, R68). -/
def readEnds (reply : PodReply) (s : State) : State :=
  stopSent (passTo (s.round.busStart + readBits reply * busBit s) s)

theorem blind_readEnds (reply : PodReply) : Blind (readEnds reply) := fun _ _ => rfl

theorem todo_readEnds (reply : PodReply) (s : State) : (readEnds reply s).round.todo = s.round.todo := rfl

theorem pods_readEnds (reply : PodReply) (s : State) : (readEnds reply s).round.pods = s.round.pods := rfl

theorem gauges_readEnds (reply : PodReply) (s : State) : (readEnds reply s).gauges = s.gauges := rfl

theorem podReadDone_eq {p : Fin 12} {rest : List (Fin 12)} {s : State} (hr : s.plan.roundState = .read)
    (hn : s.round.restarting = false) (ht : s.round.todo = p :: rest) (reply : PodReply) :
    podReadDone reply s = nextPod (podTaken reply p (readEnds reply s)) :=
  (if_pos ⟨hr, hn⟩).trans (podJudged_eq ((todo_readEnds reply s).trans ht) reply)

theorem cracks_closeWindow (g : Fin 4) (s : State) : (closeWindow g s).cracks = (judgeWindow g s).cracks := by
  rw [closeWindow_eq]
  split
  · rw [show noticeZones _ _ = _ from protects_noticeZones _ _]
  · rfl

/-- The evaluation that a change of the gauge's state brings about. -/
theorem iterate_changes (i : Fin 24) (k : Fin 48) (t u x : State) :
    (evalLimit i)^[changes k t u] x = if u.gauges[k].state ≠ t.gauges[k].state then evalLimit i x else x := by
  unfold changes
  by_cases h : u.gauges[k].state = t.gauges[k].state
  · rw [if_pos h, if_neg (not_not.mpr h), Function.iterate_zero_apply]
  · rw [if_neg h, if_pos h, Function.iterate_one]

/-- The evaluation at a completion, after n others. -/
theorem iterate_evaluations (i : Fin 24) (c : Prop) [Decidable c] (n : Nat) (x : State) :
    (evalLimit i)^[if c then n + 1 else n] x = if c then evalLimit i ((evalLimit i)^[n] x) else (evalLimit i)^[n] x := by
  split
  · exact Function.iterate_succ_apply' _ _ _
  · rfl

section
variable {i : Fin 24} {l : Limit} {ls : Vector (Option Limit) 24} {t s : State}

/-- A pod read (R71, R88): the limit is evaluated where its gauge's state changes, and again where the round with its
pod completes. -/
theorem Runs.podReadDone (h : Runs i l ls 0 t s) {k : Fin 48} (hk : OnGauge l k) (reply : PodReply) {p : Fin 12}
    {rest : List (Fin 12)} (hr : t.plan.roundState = .read) (hn : t.round.restarting = false)
    (ht : t.round.todo = p :: rest) :
    Runs i l ls
      (if rest = [] ∧ podOf k ∈ t.round.pods then changes k t (Machine.podReadDone reply t) + 1
        else changes k t (Machine.podReadDone reply t))
      (Machine.podReadDone reply t) (Machine.podReadDone reply s) := by
  obtain ⟨htodo, hpods⟩ := podTaken_round reply p (readEnds reply t)
  rw [todo_readEnds] at htodo
  rw [pods_readEnds] at hpods
  have hnext := ((h.blind (blind_readEnds reply)).podTaken hk reply p).nextPod hk (htodo.trans ht)
  have hch : changes k (readEnds reply t) (Machine.podTaken reply p (readEnds reply t)) =
      changes k t (Machine.podReadDone reply t) := by
    rw [podReadDone_eq hr hn ht]
    unfold changes
    rw [gauges_nextPod, gauges_readEnds]
  rw [hpods, hch, ← podReadDone_eq hr hn ht] at hnext
  have hround : s.round = t.round := by rw [show s = _ from h.protects]
  have hplan : s.plan = t.plan := by rw [show s = _ from h.protects]
  rwa [podReadDone_eq (s := s) (hplan ▸ hr) (hround ▸ hn) (hround ▸ ht)]

end

/-- Settles O39: every event runs side by side with the limit's slot EMPTY, and counts its evaluations. -/
theorem limitsAreEvaluatedAtTheirEvents : Obligations.LimitsAreEvaluatedAtTheirEvents := by
  intro i l s ho zones gauges dist
  have hrun := Runs.start ho
  refine ⟨?_, ?_, ?_, ?_, ?_, ?_, ?_, ?_, ?_, ?_, ?_⟩
  · intro counts hreset hscan hl
    have hp : l.isPlant = true := by
      rcases hl with hl | hl | hl | hl <;> rw [Limit.isPlant, hl]
    exact ⟨sampleSet counts (withoutLimit i s), event_out (f := sampleSet counts) (s := withoutLimit i s) hreset,
      (event_out hreset).trans (congrArg Host.Outcome.next (hrun.sampleSet hp hscan counts).eq)⟩
  · intro k x hk hx
    have h := hrun.putGauge_self hk x
    rw [if_neg (show ¬x.state = (withoutLimit i s).gauges[k].state from hx)] at h
    exact Runs.evaluates (f := putGauge k x) h
  · intro k aborted hk hpod
    have h := hrun.completeRound hk aborted
    rw [if_pos (show podOf k ∈ (withoutLimit i s).round.pods from hpod)] at h
    exact Runs.evaluates (f := completeRound aborted) h
  · intro c k items u hk hc hu hne
    have ht := asTaken_gaugeWrite hc
    have hrec := recordOf_gauge k
    rcases exec_write_cases ht hrec hu with he | ⟨pairs, hp, hrel, rfl⟩
    · rw [he] at hne
      exact absurd rfl hne
    · have hp' : Passes c (.gauge k) items pairs s := passes_of_withoutLimit (fun _ => rfl) hp
      refine ⟨_, hu, (exec_write_accepted ht hrec hp' rfl).trans (congrArg Host.Outcome.next ?_)⟩
      exact ((hrun.writeGauge hk pairs hne).answer ok).eq
  · intro reply k p rest u hk hreset hread hrest htodo hu read judged
    have hu' : u = podReadDone reply (withoutLimit i s) :=
      (Host.Outcome.next.inj ((event_out (f := podReadDone reply) (s := withoutLimit i s) hreset).symm.trans hu)).symm
    have h := (hrun.podReadDone hk reply hread hrest htodo).eq
    rw [← hu'] at h
    refine (event_out hreset).trans (congrArg Host.Outcome.next (h.trans ?_))
    rw [iterate_evaluations, iterate_changes]
    rfl
  · intro c slot y g hz hd hy hg hc
    rcases hc with ⟨rfl, ha⟩ | rfl | ⟨w, rfl, hw⟩
    · exact execEvaluates_noticed (f := ackRequest) ho hz (fun _ => rfl) hd hy hg fun a _ =>
        ackRequest_unacknowledged ha slot a
    · exact execEvaluates_noticed (f := retireRequest) (x := none) ho hz (fun _ => rfl) hd hy hg fun _ _ => rfl
    · exact execEvaluates_noticed (f := widthRequest w) ho hz (fun _ => rfl) hd hy hg fun a ha =>
        widthRequest_accepted hw slot y ha
  · intro a b x y g hz hd hab hx hy hg
    refine Runs.execEvaluates (l := l) (body := mergeRequest (byte a.val) (byte b.val)) (fun _ => rfl) hd
      (mergeRequest_eq (s := withoutLimit i s) hab hx hy) (mergeRequest_eq hab hx hy) ?_
    split
    · exact hrun.mergeCracks hz a b x y hg
    · refine hrun.mergeCracks hz b a y x ?_
      rw [add_comm (y.xq * y.events), Nat.add_comm y.events]
      exact or_left_comm.mp hg
  · intro c h g items u d y hz hc hu hy hne hg
    have ht := asTaken_groupWrite hc
    have hrec := recordOf_group h
    have hyd : refOf (withoutLimit i s) d = y.refGroup := congrArg (fun o : Option Crack => o.bind Crack.refGroup) hy
    rcases exec_write_cases ht hrec hu with he | ⟨pairs, hp, hrel, rfl⟩
    · rw [he] at hne
      exact absurd hyd hne
    · have hp' : Passes c (.group h) items pairs s := passes_of_withoutLimit (fun _ => rfl) hp
      refine ⟨_, hu, (exec_write_accepted ht hrec hp' hrel).trans (congrArg Host.Outcome.next ?_)⟩
      rw [← hyd] at hne hg
      exact ((hrun.writeGroup hz h pairs hne hg).answer ok).eq
  · intro g hz ⟨c, hc⟩
    refine Runs.evaluates (f := closeWindow g) (hrun.closeWindow hz ?_)
    rw [cracks_closeWindow] at hc
    exact List.any_eq_true.mpr ⟨c, List.mem_finRange c, bne_iff_ne.mpr hc.symm⟩
  · intro x amp cycle c y g hz hy hr hmin hg
    refine Runs.evaluates (l := l) (f := locatedEvent x amp cycle) ?_
    refine hrun.locatedEvent_join hz (nearestCrack_of_nearest (s := withoutLimit i s) hy hmin) hr hy amp cycle ?_
    rw [refGroup_joined]
    exact hg
  · intro x amp cycle g hz hzone hfar ⟨c, hc⟩
    obtain ⟨d, hd⟩ := freeSlot_isSome (s := withoutLimit i s) hc
    refine Runs.evaluates (l := l) (f := locatedEvent x amp cycle) ?_
    exact hrun.locatedEvent_create hz (fun c n hn => nearestCrack_beyond (s := withoutLimit i s) hfar hn) hd amp cycle
      hzone

end Sys2Proof.Machine
end

section
/-! The statement about rounding, the strain of a count and what a reading makes of a gauge. -/

namespace Sys2Proof.Machine

/-! ## Rounding (R46, R115) -/

theorem roundDiv_of_nonneg {n : Int} (h : 0 ≤ n) (d : Nat) : roundDiv n d = (2 * n + d) / (2 * d) := if_pos h

/-- The rounding of R46 treats both signs alike, so what it does above zero it does below. -/
theorem roundDiv_of_neg {n : Int} (h : n < 0) (d : Nat) : roundDiv n d = -roundDiv (-n) d := by
  rw [roundDiv_of_nonneg (neg_nonneg.mpr h.le)]
  exact if_neg (not_le.mpr h)

/-- Above zero the rounded quotient is below the exact one by less than a half, or above it by at most a half. -/
theorem roundDiv_brackets {n : Int} {d : Nat} (hn : 0 ≤ n) (hd : 0 < d) :
    2 * (roundDiv n d * d) ≤ 2 * n + d ∧ 2 * n < 2 * (roundDiv n d * d) + d := by
  have hpos : (0 : Int) < 2 * d := by omega
  have hle := Int.ediv_mul_le (2 * n + d) hpos.ne'
  have hlt := Int.lt_ediv_add_one_mul_self (2 * n + d) hpos
  rw [roundDiv_of_nonneg hn]
  constructor <;> linarith

/-- A tie is at the lower end of the half-open bracket, where the rounded multiple lies above the numerator. -/
theorem roundDiv_nearest_of_nonneg {n : Int} {d : Nat} (hn : 0 ≤ n) (hd : 0 < d) :
    2 * |n - roundDiv n d * d| ≤ d ∧ (2 * |n - roundDiv n d * d| = d → |n| < |roundDiv n d * d|) := by
  obtain ⟨hle, hlt⟩ := roundDiv_brackets hn hd
  generalize roundDiv n d * d = m at hle hlt ⊢
  have hm := le_abs_self m
  rw [abs_of_nonneg hn]
  rcases abs_cases (n - m) with ⟨habs, _⟩ | ⟨habs, _⟩ <;> omega

/-- A rounded quotient is nearest to the exact one, and of two as near it is the one further from zero (R46). -/
theorem roundDiv_nearest (n : Int) {d : Nat} (hd : 0 < d) :
    2 * |n - roundDiv n d * d| ≤ d ∧ (2 * |n - roundDiv n d * d| = d → |n| < |roundDiv n d * d|) := by
  rcases le_or_gt 0 n with hn | hn
  · exact roundDiv_nearest_of_nonneg hn hd
  · have h := roundDiv_nearest_of_nonneg (neg_nonneg.mpr hn.le) hd
    have hq : roundDiv (-n) d = -roundDiv n d := by rw [roundDiv_of_neg hn, neg_neg]
    rwa [hq, neg_mul, ← neg_sub', abs_neg, abs_neg, abs_neg] at h

/-- A numerator within ±m divisors rounds to a quotient within ±m: half a divisor more does not reach m + 1. -/
theorem abs_roundDiv_le {n : Int} {d : Nat} {m : Int} (hd : 0 < d) (h : |n| ≤ m * d) : |roundDiv n d| ≤ m := by
  have hnear := (roundDiv_nearest n hd).1
  have htri := abs_sub_abs_le_abs_sub (roundDiv n d * d) n
  rw [abs_sub_comm, abs_mul, Nat.abs_cast] at htri
  have hmul : |roundDiv n d| * d < (m + 1) * d := by linarith
  exact Int.lt_add_one_iff.mp (lt_of_mul_lt_mul_right hmul (Int.natCast_nonneg d))

/-- A quotient that rounds up reaches the exact one, and the next lower does not (R46, R115). -/
theorem ceilDiv_brackets (n : Nat) {d : Nat} (hd : 0 < d) : n ≤ ceilDiv n d * d ∧ ceilDiv n d * d < n + d := by
  have hle := Nat.div_mul_le_self (n + d - 1) d
  have hlt := Nat.lt_div_mul_add (a := n + d - 1) hd
  unfold ceilDiv
  constructor <;> omega

/-! ## The strain of a count (R80) -/

/-- The strain with the factors of Table 5-1 and the powers of R80 written out. -/
theorem strainOf_eq (b : Bridge) (gf : Nat) (zero c : Int) :
    strainOf b gf zero c = roundDiv (b.factor * (c - zero) * 10000000000) (1073741824 * gf) := rfl

theorem factor_le (b : Bridge) : b.factor ≤ 4 := by cases b <;> decide

/-- The greatest strain is that of the greatest difference of counts in a QUARTER bridge at gf_milli 500 (R80). -/
theorem abs_strainOf_le {b : Bridge} {gf : Nat} {zero c : Int} (hgf : 500 ≤ gf) (h : |c - zero| ≤ 16777215) :
    |strainOf b gf zero c| ≤ 1250000 := by
  have hprod : (b.factor : Int) * |c - zero| ≤ 4 * 16777215 :=
    mul_le_mul (by exact_mod_cast factor_le b) h (abs_nonneg _) (by norm_num)
  rw [strainOf_eq]
  refine abs_roundDiv_le (by omega) ?_
  rw [abs_mul, abs_mul, Nat.abs_cast, abs_of_pos (show (0 : Int) < 10000000000 by decide)]
  generalize (b.factor : Int) * |c - zero| = p at hprod
  omega

/-! ## A reading of an enabled gauge (R81 to R83) -/

theorem widen_some (old : Strain) (e : Int) :
    widen (some old) e =
      { now := e
        peakMax := if old.peakMax < e then e else old.peakMax
        peakMin := if e < old.peakMin then e else old.peakMin } := by
  simp only [widen, max_def_lt, min_comm old.peakMin, min_def_lt]

theorem reading_of_flagged (x : Gauge) (c : Int) :
    x.reading c true = { x with count := some c, state := .overrange } := rfl

/-- A count of −8,388,608 lies outside the range of zero and is captured as −8,388,607 (R83). -/
theorem reading_of_zeroPending {x : Gauge} (h : x.zeroPending = true) (c : Int) :
    x.reading c false =
      { x with
        count := some c
        zero := max c (-8388607)
        strain := some { now := 0, peakMax := 0, peakMin := 0 }
        zeroPending := false
        state := .ok } := if_pos h

theorem reading_of_not_zeroPending {x : Gauge} (h : x.zeroPending = false) (c : Int) :
    x.reading c false =
      { x with
        count := some c
        strain := some (widen x.strain (strainOf x.bridge x.gfMilli x.zero c))
        state := .ok } := by
  simp [Gauge.reading, h]

/-- The zero of a capture, by the cases of R83. -/
theorem capturedZero_eq (c : Int) :
    max c (-8388607) = if c = -8388608 then -8388607 else if c < -8388607 then -8388607 else c := by
  split
  · omega
  · split <;> omega

/-- Settles O25: rounding by its symmetry about zero, the range of a strain by that of its numerator, and a reading by the
branch it takes. -/
theorem readingsConvertToStrain : Obligations.ReadingsConvertToStrain := by
  refine ⟨⟨fun n d hd => roundDiv_nearest n hd, fun n d hd => ceilDiv_brackets n hd⟩, ?_, ?_⟩
  · intro b gf zero c
    refine ⟨(strainOf_eq b gf zero c).trans (by cases b <;> rfl), fun hgf _ hz0 hz1 hc0 hc1 => ?_⟩
    exact abs_le.mp (abs_strainOf_le hgf (abs_le.mpr ⟨by omega, by omega⟩))
  · intro x c flagged
    refine ⟨?_, ?_, ?_⟩
    · rintro rfl
      exact reading_of_flagged x c
    · rintro rfl hz
      rw [reading_of_zeroPending hz, capturedZero_eq]
    · rintro rfl hz
      rw [reading_of_not_zeroPending hz]
      refine ⟨fun hs => ?_, fun old hs => ?_⟩
      · rw [hs, widen]
      · rw [hs, widen_some]

end Sys2Proof.Machine
end

section
/-! What never reaches the strain stream: the plan, the round in flight, the gauges and the gauge pods stand through every
operation of the other streams and through every command that is none of theirs. -/

namespace Sys2Proof.Machine

/-- The records of the strain stream. -/
structure StrainStream where
  plan : Plan
  round : Round
  gauges : Vector Gauge 48
  gpods : Vector GPod 12

/-- The strain stream of a state. -/
def strain (s : State) : StrainStream := ⟨s.plan, s.round, s.gauges, s.gpods⟩

theorem strain_eq_iff {s t : State} :
    strain t = strain s ↔ t.plan = s.plan ∧ t.round = s.round ∧ t.gauges = s.gauges ∧ t.gpods = s.gpods := by
  simp [strain]

/-! ## The named updates and the shared operations -/

theorem Protects.strain {s t : State} (h : Protects s t) : strain t = strain s := by
  unfold Protects at h
  rw [h]
  rfl

theorem Gathers.strain {s t : State} (h : Gathers s t) : strain t = strain s := by
  unfold Gathers at h
  rw [h]
  rfl

theorem strain_forAll {n : Nat} {f : Fin n → State → State} (h : ∀ i t, strain (f i t) = strain t) (s : State) :
    strain (forAll f s) = strain s :=
  forAll_invariant (P := fun t => strain t = strain s) (fun i t ht => (h i t).trans ht) rfl

@[simp] theorem strain_passTo (c : Nat) (s : State) : strain (passTo c s) = strain s := rfl

@[simp] theorem strain_mark (i : RecordId) (s : State) : strain (mark i s) = strain s := rfl

@[simp] theorem strain_unmark (i : RecordId) (s : State) : strain (unmark i s) = strain s := rfl

@[simp] theorem strain_markIf (b : Bool) (i : RecordId) (s : State) : strain (markIf b i s) = strain s :=
  (protects_markIf b i s).strain

@[simp] theorem strain_setRam (r : Fin 8) (x : Ram) (s : State) : strain (setRam r x s) = strain s := rfl

@[simp] theorem strain_setStep (i : Fin 64) (x : StepRec) (s : State) : strain (setStep i x s) = strain s := rfl

@[simp] theorem strain_setLine (x : Line) (s : State) : strain (setLine x s) = strain s := rfl

@[simp] theorem strain_setAPod (p : Fin 16) (x : APod) (s : State) : strain (setAPod p x s) = strain s := rfl

@[simp] theorem strain_putAPod (p : Fin 16) (x : APod) (s : State) : strain (putAPod p x s) = strain s := by
  simp [putAPod, strain]

@[simp] theorem strain_putGroup (g : Fin 4) (x : Group) (s : State) : strain (putGroup g x s) = strain s :=
  (protects_putGroup g x s).strain

@[simp] theorem strain_putLimit (i : Fin 24) (x : Option Limit) (s : State) : strain (putLimit i x s) = strain s :=
  (protects_putLimit i x s).strain

@[simp] theorem strain_putCrack (c : Fin 32) (x : Option Crack) (s : State) : strain (putCrack c x s) = strain s :=
  (gathers_putCrack c x s).strain

@[simp] theorem strain_answer (r : Response) (s : State) : strain (answer r s) = strain s := rfl

@[simp] theorem strain_portCheck (s : State) : strain (portCheck s) = strain s := by
  rw [portCheck_eq]
  rfl

@[simp] theorem strain_unloadGroup (g : Fin 4) (s : State) : strain (unloadGroup g s) = strain s :=
  (protects_unloadGroup g s).strain

@[simp] theorem strain_tripRam (cause : TripCause) (r : Fin 8) (s : State) : strain (tripRam cause r s) = strain s :=
  (protects_tripRam cause r s).strain

@[simp] theorem strain_tripAll (cause : TripCause) (s : State) : strain (tripAll cause s) = strain s :=
  (protects_tripAll cause s).strain

@[simp] theorem strain_notifyRelease (l : Limit) (s : State) : strain (notifyRelease l s) = strain s :=
  (protects_notifyRelease l s).strain

@[simp] theorem strain_evalLimit (i : Fin 24) (s : State) : strain (evalLimit i s) = strain s :=
  (protects_evalLimit i s).strain

@[simp] theorem strain_evalWhere (p : Limit → Bool) (s : State) : strain (evalWhere p s) = strain s :=
  (protects_evalWhere p s).strain

@[simp] theorem strain_noticeZones (c : Fin 4 → Bool) (s : State) : strain (noticeZones c s) = strain s :=
  (protects_noticeZones c s).strain

@[simp] theorem strain_noticeRefs (refs : List (Option (Fin 4))) (s : State) : strain (noticeRefs refs s) = strain s :=
  strain_noticeZones _ s

/-! ## The crack table and the locator -/

@[simp] theorem strain_locatedEvent (x : Int) (amp cycle : Nat) (s : State) :
    strain (locatedEvent x amp cycle s) = strain s := (gathers_locatedEvent x amp cycle s).strain

@[simp] theorem strain_closeWindow (g : Fin 4) (s : State) : strain (closeWindow g s) = strain s :=
  (gathers_closeWindow g s).strain

@[simp] theorem strain_wrapAtCracks (g : Fin 4) (counted : Bool) (s : State) :
    strain (wrapAtCracks g counted s) = strain s := by
  unfold wrapAtCracks
  split <;> simp

@[simp] theorem strain_recomputeRefs (s : State) : strain (recomputeRefs s) = strain s := by
  have h : strain (rebound s) = strain s := by simp [rebound, strain]
  rw [recomputeRefs_eq, strain_noticeZones, h]

@[simp] theorem strain_mergeCracks (lo hi : Fin 32) (x y : Crack) (s : State) :
    strain (mergeCracks lo hi x y s) = strain s := by
  simp [mergeCracks]

@[simp] theorem strain_expireSlot (p : Fin 16) (s : State) : strain (expireSlot p s) = strain s := by
  unfold expireSlot
  repeat' split
  all_goals simp

@[simp] theorem strain_frameEndNotice (s : State) : strain (frameEndNotice s) = strain s :=
  strain_forAll strain_expireSlot s

@[simp] theorem strain_clearSlot (p : Fin 16) (s : State) : strain (clearSlot p s) = strain s := by
  unfold clearSlot
  split <;> simp

@[simp] theorem strain_pairHits (p q : Fin 16) (t : Word) (amp : Nat) (h : Hit) (s : State) :
    strain (pairHits p q t amp h s) = strain s := by
  simp [pairHits]

@[simp] theorem strain_holdHit (p : Fin 16) (t : Word) (amp : Nat) (s : State) :
    strain (holdHit p t amp s) = strain s := by
  simp [holdHit]

/-- The neighbour of an arriving hit's pod, where it has one, is examined for its age (R115). -/
@[simp] theorem strain_expireNeighbour (q : Option (Fin 16)) (s : State) :
    strain ((q.map fun q => expireSlot q s).getD s) = strain s := by
  cases q <;> simp

@[simp] theorem strain_hitArrival (p : Fin 16) (h : Hit) (s : State) : strain (hitArrival p h s) = strain s := by
  unfold hitArrival
  simp only
  repeat' split
  all_goals simp

@[simp] theorem strain_hitArrivals (p : Fin 16) (hs : List Hit) (s : State) :
    strain (hs.foldl (fun u h => hitArrival p h u) s) = strain s := by
  induction hs generalizing s with
  | nil => rfl
  | cons h hs ih => simp [ih]

/-! ## The acoustic line -/

@[simp] theorem strain_frameEnd (began : Nat) (s : State) : strain (frameEnd began s) = strain s := by
  simp [frameEnd]

@[simp] theorem strain_beginPoll (p : Fin 16) (s : State) : strain (beginPoll p s) = strain s := rfl

@[simp] theorem strain_beginTime (s : State) : strain (beginTime s) = strain s := rfl

@[simp] theorem strain_beginQuiet (began : Nat) (s : State) : strain (beginQuiet began s) = strain s := rfl

@[simp] theorem strain_openPollSlot (dominant : Bool) (s : State) : strain (openPollSlot dominant s) = strain s := by
  unfold openPollSlot
  simp only
  repeat' split
  all_goals simp

@[simp] theorem strain_openSlot (dominant : Bool) (s : State) : strain (openSlot dominant s) = strain s := by
  unfold openSlot
  repeat' split
  all_goals simp

@[simp] theorem strain_beginHeld (f : HeldFrame) (s : State) : strain (beginHeld f s) = strain s := by
  unfold beginHeld
  repeat' split
  all_goals simp

@[simp] theorem strain_pollOutcome (p : Fin 16) (counted : Bool) (o : PollOutcome) (s : State) :
    strain (pollOutcome p counted o s) = strain s := by
  unfold pollOutcome
  split <;> simp

@[simp] theorem strain_goodReply (p : Fin 16) (reply : List Byte) (s : State) :
    strain (goodReply p reply s) = strain s := by
  unfold goodReply
  simp only [strain_hitArrivals]
  split <;> simp

@[simp] theorem strain_takeReply (p : Fin 16) (began : Nat) (counted : Bool) (reply : List Byte) (s : State) :
    strain (takeReply p began counted reply s) = strain s := by
  unfold takeReply
  repeat' split
  all_goals simp

@[simp] theorem strain_requestSweep (s : State) : strain (requestSweep s) = strain s := by
  unfold requestSweep
  repeat' split
  all_goals simp

@[simp] theorem strain_setLineState (x : LineState) (s : State) : strain (setLineState x s) = strain s := by
  simp [setLineState, strain]

@[simp] theorem strain_enterStuck (s : State) : strain (enterStuck s) = strain s := by
  unfold enterStuck
  simp only
  split <;> simp

@[simp] theorem strain_restartLine (s : State) : strain (restartLine s) = strain s :=
  strain_forAll strain_clearSlot _

@[simp] theorem strain_uncountPoll (p : Fin 16) (s : State) : strain (uncountPoll p s) = strain s := by
  unfold uncountPoll
  repeat' split
  all_goals simp

@[simp] theorem strain_slotOpen (dominant : Bool) (s : State) : strain (slotOpen dominant s) = strain s := by
  unfold slotOpen
  simp only
  repeat' split
  all_goals simp

@[simp] theorem strain_countContention (s : State) : strain (countContention s) = strain s := rfl

@[simp] theorem strain_contention (s : State) : strain (contention s) = strain s := by
  unfold contention
  repeat' split
  all_goals simp

@[simp] theorem strain_replyFails (p : Fin 16) (began : Nat) (counted : Bool) (n : Nat) (s : State) :
    strain (replyFails p began counted n s) = strain s := by
  simp [replyFails]

@[simp] theorem strain_replyTimeout (falls : List LineFall) (s : State) : strain (replyTimeout falls s) = strain s := by
  unfold replyTimeout
  repeat' split
  all_goals simp

@[simp] theorem strain_replyFrameError (s : State) : strain (replyFrameError s) = strain s := by
  unfold replyFrameError
  split <;> simp

@[simp] theorem strain_replyReceived (falls : List LineFall) (s : State) :
    strain (replyReceived falls s) = strain s := by
  unfold replyReceived
  repeat' split
  all_goals simp

@[simp] theorem strain_quietWaitEnd (s : State) : strain (quietWaitEnd s) = strain s := by
  unfold quietWaitEnd
  split <;> simp

@[simp] theorem strain_requestPulse (n : Nat) (s : State) : strain (requestPulse n s) = strain s := by
  unfold requestPulse
  split <;> simp

@[simp] theorem strain_lineRecovered (s : State) : strain (lineRecovered s) = strain s := by
  unfold lineRecovered
  split <;> simp

@[simp] theorem strain_timeFrameEnd (s : State) : strain (timeFrameEnd s) = strain s := by
  unfold timeFrameEnd
  split <;> simp

@[simp] theorem strain_heldFrameBegin (s : State) : strain (heldFrameBegin s) = strain s := by
  unfold heldFrameBegin
  split <;> simp

/-! ## The plant and the request port -/

@[simp] theorem strain_takeCounts (r : Fin 8) (cLoad cStroke cCoil : Int) (s : State) :
    strain (takeCounts r cLoad cStroke cCoil s) = strain s := by
  unfold takeCounts
  simp only
  repeat' split
  all_goals simp

@[simp] theorem strain_takeRam (counts : Vector (BitVec 16) 28) (r : Fin 8) (s : State) :
    strain (takeRam counts r s) = strain s := strain_takeCounts _ _ _ _ _

@[simp] theorem strain_takeAux (counts : Vector (BitVec 16) 28) (s : State) :
    strain (takeAux counts s) = strain s := rfl

@[simp] theorem strain_atScanEnd (e : Nat) (s : State) : strain (atScanEnd e s) = strain s := rfl

@[simp] theorem strain_pulsePeriodStart (s : State) : strain (pulsePeriodStart s) = strain s := rfl

@[simp] theorem strain_estopAssert (s : State) : strain (estopAssert s) = strain s := by
  unfold estopAssert
  split
  · exact strain_tripAll _ _
  · rfl

@[simp] theorem strain_hpuReadyFall (s : State) : strain (hpuReadyFall s) = strain s := by
  unfold hpuReadyFall
  split
  · exact strain_tripAll _ _
  · rfl

@[simp] theorem strain_settleResponse (n : Nat) (s : State) : strain (settleResponse n s) = strain s := by
  unfold settleResponse
  simp only
  repeat' split
  all_goals simp [strain]

@[simp] theorem strain_takeFrame (sdi : List Byte) (s : State) : strain (takeFrame sdi s) = strain s := by
  unfold takeFrame
  split <;> rfl

@[simp] theorem strain_selFall (s : State) : strain (selFall s) = strain s := by
  unfold selFall
  repeat' split
  all_goals simp [strain]

@[simp] theorem strain_selRise (sdi : List Bool) (s : State) : strain (selRise sdi s) = strain s := by
  unfold selRise
  simp only
  repeat' split
  any_goals rfl
  exact (strain_takeFrame _ _).trans (strain_settleResponse _ _)

end Sys2Proof.Machine
end

section
/-! Every command but those of the strain stream, the writes and RESTART leaves the strain stream as it is. -/

namespace Sys2Proof.Machine

/-! ## Commands and requests -/

theorem event_strain {f : State → State} {s t : State} (hf : strain (f s) = strain s) (h : event f s = .next t) :
    strain t = strain s := by
  unfold event at h
  split at h
  · cases h
    rfl
  · cases h
    exact hf

theorem takeRequest_strain {c : Instr} {f : State → State} {s : State} (hf : strain (f s) = strain s) :
    strain (takeRequest c f s) = strain s := by
  unfold takeRequest
  split
  · exact hf
  · exact strain_portCheck s

theorem request_strain {c : Instr} {body : State → Response × State} {s t : State}
    (hb : strain (body s).2 = strain s) (h : request c body s = .next t) : strain t = strain s :=
  event_strain (takeRequest_strain hb) h

theorem strain_onRam {f : Fin 8 → State → Response × State} (hf : ∀ r s, strain (f r s).2 = strain s) (key : Byte)
    (s : State) : strain (onRam key f s).2 = strain s := by
  unfold onRam
  split
  · exact hf _ s
  · rfl

theorem strain_onGroup {f : Fin 4 → State → Response × State} (hf : ∀ g s, strain (f g s).2 = strain s) (key : Byte)
    (s : State) : strain (onGroup key f s).2 = strain s := by
  unfold onGroup
  split
  · exact hf _ s
  · rfl

theorem strain_onCrack {f : Fin 32 → Crack → State → Response × State} (hf : ∀ c y s, strain (f c y s).2 = strain s)
    (key : Byte) (s : State) : strain (onCrack key f s).2 = strain s := by
  unfold onCrack
  split
  · split
    · exact hf _ _ s
    · rfl
  · rfl

theorem strain_onLimit {f : Fin 24 → Limit → State → Response × State} (hf : ∀ i l s, strain (f i l s).2 = strain s)
    (key : Byte) (s : State) : strain (onLimit key f s).2 = strain s := by
  unfold onLimit
  split
  · split
    · exact hf _ _ s
    · rfl
  · rfl

theorem strain_readRecord (kind key : Byte) (s : State) : strain (readRecord kind key s).2 = strain s := by
  unfold readRecord
  split <;> rfl

theorem strain_listRecords (start : Option (Byte × Byte)) (s : State) : strain (listRecords start s).2 = strain s := by
  unfold listRecords
  repeat' split
  all_goals rfl

theorem strain_startRequest (r : Fin 8) (s : State) : strain (startRequest r s).2 = strain s := by
  unfold startRequest
  split <;> simp

theorem strain_stopRequest (r : Fin 8) (s : State) : strain (stopRequest r s).2 = strain s := by
  unfold stopRequest
  simp only
  repeat' split
  all_goals simp

theorem strain_clearRequest (r : Fin 8) (s : State) : strain (clearRequest r s).2 = strain s := by
  unfold clearRequest
  simp only
  split <;> simp

theorem strain_runResumeRequest (g : Fin 4) (s : State) : strain (runResumeRequest g s).2 = strain s := by
  unfold runResumeRequest runResume
  simp only
  repeat' split
  all_goals simp

theorem strain_runFromStepRequest (form : Byte) (g : Fin 4) (s : State) :
    strain (runFromStepRequest form g s).2 = strain s := by
  unfold runFromStepRequest
  repeat' split
  all_goals simp [runFromStep]

theorem strain_pauseNowRequest (g : Fin 4) (s : State) : strain (pauseNowRequest g s).2 = strain s := by
  unfold pauseNowRequest
  split <;> simp

theorem strain_pauseAtCycleEndRequest (g : Fin 4) (s : State) : strain (pauseAtCycleEndRequest g s).2 = strain s := by
  unfold pauseAtCycleEndRequest
  simp only
  repeat' split
  all_goals simp

theorem strain_unloadRequest (g : Fin 4) (s : State) : strain (unloadRequest g s).2 = strain s := by
  unfold unloadRequest
  split <;> simp

theorem strain_releaseRequest (g : Fin 4) (s : State) : strain (releaseRequest g s).2 = strain s := by
  unfold releaseRequest
  simp only
  split <;> simp

theorem strain_podCountersRequest (sel : Byte) (s : State) : strain (podCountersRequest sel s).2 = strain s := by
  unfold podCountersRequest
  simp only
  repeat' split
  all_goals rfl

theorem strain_ackRequest (c : Fin 32) (y : Crack) (s : State) : strain (ackRequest c y s).2 = strain s := by
  unfold ackRequest
  split <;> simp

theorem strain_widthRequest (width : BitVec 16) (c : Fin 32) (y : Crack) (s : State) :
    strain (widthRequest width c y s).2 = strain s := by
  unfold widthRequest
  split <;> simp

theorem strain_retireRequest (c : Fin 32) (y : Crack) (s : State) : strain (retireRequest c y s).2 = strain s := by
  simp [retireRequest]

theorem strain_mergeRequest (a b : Byte) (s : State) : strain (mergeRequest a b s).2 = strain s := by
  refine strain_onCrack (fun i x s => strain_onCrack (fun j y s => ?_) b s) a s
  repeat' split
  all_goals simp

theorem strain_limitAckRequest (i : Fin 24) (l : Limit) (s : State) : strain (limitAckRequest i l s).2 = strain s := by
  unfold limitAckRequest
  split <;> simp

theorem strain_limitRetireRequest (i : Fin 24) (l : Limit) (s : State) :
    strain (limitRetireRequest i l s).2 = strain s := by
  unfold limitRetireRequest
  simp only
  split <;> simp

/-! ## Writes -/

theorem strain_writeGroup (g : Fin 4) (pairs : List (Nat × Int)) (s : State) :
    strain (writeGroup g pairs s) = strain s := by
  unfold writeGroup
  simp only
  split <;> simp

theorem strain_writeStep (i : Fin 64) (pairs : List (Nat × Int)) (s : State) :
    strain (writeStep i pairs s) = strain s := by
  unfold writeStep
  simp only
  split <;> simp

theorem strain_writeAPod (p : Fin 16) (pairs : List (Nat × Int)) (s : State) :
    strain (writeAPod p pairs s) = strain s := by
  unfold writeAPod
  simp only
  repeat' split
  all_goals simp

theorem strain_writeLimit (i : Fin 24) (pairs : List (Nat × Int)) (s : State) :
    strain (writeLimit i pairs s) = strain s := by
  unfold writeLimit
  simp only
  repeat' split
  all_goals simp

/-- A WRITE of any record but HALL, PLAN and a GAUGE. -/
theorem strain_applyWrite {r : RecordId} (hh : r ≠ .hall) (hp : r ≠ .plan) (hg : ∀ k, r ≠ .gauge k)
    (pairs : List (Nat × Int)) (s : State) : strain (applyWrite r pairs s) = strain s := by
  cases r with
  | hall => exact absurd rfl hh
  | plan => exact absurd rfl hp
  | gauge k => exact absurd rfl (hg k)
  | ram r => rfl
  | group g => exact strain_writeGroup g pairs s
  | step i => exact strain_writeStep i pairs s
  | apod p => exact strain_writeAPod p pairs s
  | limit i => exact strain_writeLimit i pairs s
  | crackset | gpod _ | crack _ => rfl

/-! ## Every other command -/

/-- The commands that reach the strain stream, or can by the record they write. -/
def ofStrain : Instr → Bool
  | .powerOnReset _ _ | .controlTick | .sampleSet _ | .write _ _ _ | .stepWrite _ _ _ | .seatLoadWrite _ _
  | .zoneWrite _ _ | .gaugeEnable _ _ | .gaugeDisable _ _ | .apodEnable _ _ | .apodDisable _ _ | .planWrite _ _
  | .pwmPeriodWrite _ _ | .attentionMaskWrite _ _ | .limitDefine _ _ | .limitEdit _ _ | .limitEnable _ _
  | .limitDisable _ _ | .restart | .restartComplete | .gaugeRound | .gaugeArmArm | .gaugeArmDisarm | .gaugeZero _
  | .peakReset _ | .intervalTimerExpiry | .cyclicStart | .delayExpiry | .latchBroadcastDone _ _ | .latchWaitExpiry
  | .podReadDone _ | .stretchTimeout | .busClearDone _ => true
  | _ => false

/-- A command of another stream leaves the strain stream as it is. -/
theorem exec_strain {c : Instr} {s t : State} (hc : ofStrain c = false) (h : exec c s = .next t) :
    strain t = strain s := by
  cases c with
  | resetAssert =>
    cases h
    rfl
  | pulsePeriodStart => exact event_strain (strain_pulsePeriodStart s) h
  | estopAssert => exact event_strain (strain_estopAssert s) h
  | estopRelease =>
    exact event_strain (f := fun s => { s with hall := { s.hall with estop := .clear } }) rfl h
  | hpuReadyFall => exact event_strain (strain_hpuReadyFall s) h
  | hpuReadyRise =>
    exact event_strain (f := fun s => { s with hall := { s.hall with hpuReady := .high } }) rfl h
  | selFall => exact event_strain (strain_selFall s) h
  | selRise sdi => exact event_strain (strain_selRise sdi s) h
  | identify => exact request_strain (by rfl) h
  | read kind key => exact request_strain (strain_readRecord kind key s) h
  | listChanged start => exact request_strain (strain_listRecords start s) h
  | groupRunResume group => exact request_strain (strain_onGroup strain_runResumeRequest group s) h
  | groupRunFromStep group form => exact request_strain (strain_onGroup (strain_runFromStepRequest form) group s) h
  | groupPauseNow group => exact request_strain (strain_onGroup strain_pauseNowRequest group s) h
  | groupPauseAtCycleEnd group => exact request_strain (strain_onGroup strain_pauseAtCycleEndRequest group s) h
  | groupUnload group => exact request_strain (strain_onGroup strain_unloadRequest group s) h
  | groupRelease group => exact request_strain (strain_onGroup strain_releaseRequest group s) h
  | ramStart ram => exact request_strain (strain_onRam strain_startRequest ram s) h
  | ramStop ram => exact request_strain (strain_onRam strain_stopRequest ram s) h
  | ramClear ram => exact request_strain (strain_onRam strain_clearRequest ram s) h
  | podCountersClear sel => exact request_strain (strain_podCountersRequest sel s) h
  | findCrack x => exact request_strain (body := findRequest x) (by rw [RamsMove.findRequest]) h
  | crackAck slot => exact request_strain (strain_onCrack strain_ackRequest slot s) h
  | crackWidth slot width => exact request_strain (strain_onCrack (strain_widthRequest width) slot s) h
  | crackRetire slot => exact request_strain (strain_onCrack strain_retireRequest slot s) h
  | crackMerge a b => exact request_strain (strain_mergeRequest a b s) h
  | limitAck slot => exact request_strain (strain_onLimit strain_limitAckRequest slot s) h
  | limitRetire slot => exact request_strain (strain_onLimit strain_limitRetireRequest slot s) h
  | timeFrameDue => exact event_strain (f := timeFrameDue) (by rfl) h
  | slotOpen dominant => exact event_strain (strain_slotOpen dominant s) h
  | contention => exact event_strain (strain_contention s) h
  | replyTimeout falls => exact event_strain (strain_replyTimeout falls s) h
  | replyFrameError => exact event_strain (strain_replyFrameError s) h
  | replyReceived falls => exact event_strain (strain_replyReceived falls s) h
  | quietWaitEnd => exact event_strain (strain_quietWaitEnd s) h
  | requestPulse n => exact event_strain (strain_requestPulse n s) h
  | lineStuck =>
    refine event_strain ?_ h
    split
    · exact strain_enterStuck s
    · rfl
  | lineRecovered => exact event_strain (strain_lineRecovered s) h
  | timeFrameEnd => exact event_strain (strain_timeFrameEnd s) h
  | heldFrameBegin => exact event_strain (strain_heldFrameBegin s) h
  | _ => cases hc

end Sys2Proof.Machine
end

section
/-! The accounts of the round in flight: what they are in each round state, and that every command keeps them. -/

namespace Sys2Proof.Machine

/-! ## What a handover and a completion leave of the round plan -/

/-- Why a pod read is a miss, if it is one (R69). -/
def readMiss : PodReply → Option MissReason
  | .nack => some .noAck
  | .bits sda => replyMiss (podBytes sda)

theorem podTaken_missed {reply : PodReply} {why : MissReason} (h : readMiss reply = some why) (p : Fin 12) (s : State) :
    podTaken reply p s = roundMiss p why s := by
  cases reply with
  | nack =>
    cases h
    rfl
  | bits sda =>
    have h : replyMiss (podBytes sda) = some why := h
    simp only [podTaken, h]

theorem podTaken_good {sda : Vector Bool 112} (h : readMiss (.bits sda) = none) (p : Fin 12) (s : State) :
    podTaken (.bits sda) p s =
      countRoundRead
        (handRead p (fun c => (replyByte (podBytes sda) 0).testBit c.val) (replyCount (podBytes sda)) s) := by
  have h : replyMiss (podBytes sda) = none := h
  simp only [podTaken, h]

/-- A handover to gauges and pods leaves the round plan. -/
theorem Hands.round_plan {s t : State} (h : Hands s t) : t.round = s.round ∧ t.plan = s.plan := by
  unfold Hands at h
  rw [h]
  exact ⟨Eq.refl _, Eq.refl _⟩

theorem round_roundMiss (p : Fin 12) (why : MissReason) (s : State) :
    (roundMiss p why s).round = { s.round with podsMissed := s.round.podsMissed + 1 } := by
  rw [roundMiss_eq, countRoundMiss, setRound, (hands_handMiss p why s).round_plan.1]

theorem plan_roundMiss (p : Fin 12) (why : MissReason) (s : State) : (roundMiss p why s).plan = s.plan :=
  (hands_handMiss p why s).round_plan.2

theorem round_podTaken (reply : PodReply) (p : Fin 12) (s : State) :
    (podTaken reply p s).round =
      if readMiss reply = none then { s.round with podsRead := s.round.podsRead + 1 }
      else { s.round with podsMissed := s.round.podsMissed + 1 } := by
  cases h : readMiss reply with
  | some why => rw [podTaken_missed h, round_roundMiss, if_neg (by simp)]
  | none =>
    cases reply with
    | nack => cases h
    | bits sda => rw [podTaken_good h, countRoundRead, setRound, (hands_handRead _ _ _ s).round_plan.1, if_pos rfl]

theorem plan_podTaken (reply : PodReply) (p : Fin 12) (s : State) : (podTaken reply p s).plan = s.plan := by
  cases h : readMiss reply with
  | some why => rw [podTaken_missed h, plan_roundMiss]
  | none =>
    cases reply with
    | nack => cases h
    | bits sda =>
      rw [podTaken_good h, countRoundRead, setRound_plan, (hands_handRead _ _ _ s).round_plan.2]

theorem roundState_endRound (s : State) : (endRound s).plan.roundState = .idle := by
  unfold endRound
  split <;> rfl

theorem roundState_completeRound (aborted : Bool) (s : State) :
    (completeRound aborted s).plan.roundState = .idle := by
  rw [completeRound_eq, roundState_endRound]

/-! ## The accounts in each round state -/

/-- A round's list ascends, and none of its pods has been handed over. -/
structure Round.Unread (r : Round) : Prop where
  ascends : r.pods.Pairwise (· < ·)
  todo : r.todo = r.pods
  podsRead : r.podsRead = 0
  podsMissed : r.podsMissed = 0

/-- A round's list ascends, its first n pods have been dealt with, and at least one is still to come. -/
structure Round.After (n : Nat) (r : Round) : Prop where
  ascends : r.pods.Pairwise (· < ·)
  todo : r.todo = r.pods.drop n
  left : r.todo ≠ []

theorem roundLaw_of_idle {s : State} (h : s.plan.roundState = .idle) : RoundLaw s := fun hn => absurd h hn

theorem roundLaw_of_restarting {s : State} (h : s.round.restarting = true) : RoundLaw s := fun _ hn =>
  absurd h (by simp [hn])

/-- Before the reads: in DELAY, LATCH, WAIT, and in a CLEAR at the start or after the latch. -/
theorem roundLaw_unread_iff {s : State} (hi : s.plan.roundState ≠ .idle) (hr : s.plan.roundState ≠ .read)
    (hc : s.plan.roundState = .clear → s.round.clearFor ≠ .pod) :
    RoundLaw s ↔
      (s.round.restarting = false → s.round.Unread ∧ (s.plan.roundState = .wait → s.round.pods ≠ [])) := by
  have hcp : ¬(s.plan.roundState = .clear ∧ s.round.clearFor = .pod) := fun h => hc h.1 h.2
  simp only [RoundLaw, hi, hr, hcp, if_false, ne_eq, not_false_eq_true, forall_true_left]
  refine forall_congr' fun _ => ⟨fun ⟨ha, hw, ht, hrd, hm⟩ => ⟨⟨ha, ht, hrd, hm⟩, hw⟩, ?_⟩
  exact fun ⟨⟨ha, ht, hrd, hm⟩, hw⟩ => ⟨ha, hw, ht, hrd, hm⟩

theorem roundLaw_read_iff {s : State} (h : s.plan.roundState = .read) :
    RoundLaw s ↔ (s.round.restarting = false → s.round.After (s.round.podsRead + s.round.podsMissed)) := by
  simp only [RoundLaw, h, if_true, ne_eq, reduceCtorEq, not_false_eq_true, forall_true_left, false_imp_iff, true_and]
  exact forall_congr' fun _ => ⟨fun ⟨ha, hl, ht⟩ => ⟨ha, ht, hl⟩, fun ⟨ha, ht, hl⟩ => ⟨ha, hl, ht⟩⟩

/-- In the CLEAR after a pod that timed out, that pod has been counted as missed and still heads the list. -/
theorem roundLaw_clearPod_iff {s : State} (h : s.plan.roundState = .clear) (hc : s.round.clearFor = .pod) :
    RoundLaw s ↔
      (s.round.restarting = false →
        1 ≤ s.round.podsMissed ∧ s.round.After (s.round.podsRead + s.round.podsMissed - 1)) := by
  simp only [RoundLaw, h, hc, if_true, if_false, ne_eq, reduceCtorEq, not_false_eq_true, forall_true_left,
    false_imp_iff, true_and, and_self]
  exact forall_congr' fun _ => ⟨fun ⟨ha, hl, hm, ht⟩ => ⟨hm, ha, ht, hl⟩, fun ⟨hm, ha, ht, hl⟩ => ⟨ha, hl, hm, ht⟩⟩

/-- From s to t the round state and everything that the accounts are kept in stand. -/
structure SameAccounts (s t : State) : Prop where
  state : t.plan.roundState = s.plan.roundState
  restarting : t.round.restarting = s.round.restarting
  pods : t.round.pods = s.round.pods
  todo : t.round.todo = s.round.todo
  podsRead : t.round.podsRead = s.round.podsRead
  podsMissed : t.round.podsMissed = s.round.podsMissed
  clearFor : t.round.clearFor = s.round.clearFor

theorem SameAccounts.roundLaw {s t : State} (h : SameAccounts s t) (hl : RoundLaw s) : RoundLaw t := by
  simpa only [RoundLaw, h.state, h.restarting, h.pods, h.todo, h.podsRead, h.podsMissed, h.clearFor] using hl

theorem SameAccounts.of_round {s t : State} (hp : t.plan.roundState = s.plan.roundState) (hr : t.round = s.round) :
    SameAccounts s t := by
  constructor <;> simp [hp, hr]

theorem SameAccounts.of_strain {s t : State} (h : strain t = strain s) : SameAccounts s t := by
  obtain ⟨hp, hr, -, -⟩ := strain_eq_iff.mp h
  exact .of_round (by rw [hp]) hr

/-! ## The start of a round -/

theorem roundLaw_roundGoesOn {s : State} (h : s.round.restarting = false → s.round.Unread) :
    RoundLaw (roundGoesOn s) := by
  unfold roundGoesOn
  split
  · refine (roundLaw_unread_iff (by simp [clearStart_eq]) (by simp [clearStart_eq]) (by simp [clearStart_eq])).mpr
      fun hn => ?_
    obtain ⟨ha, ht, hrd, hm⟩ := h hn
    exact ⟨⟨ha, ht, hrd, hm⟩, by simp [clearStart_eq]⟩
  · rw [latchStart_eq]
    refine (roundLaw_unread_iff (by simp) (by simp) (by simp)).mpr fun hn => ?_
    obtain ⟨ha, ht, hrd, hm⟩ := h hn
    exact ⟨⟨ha, ht, hrd, hm⟩, by simp⟩

/-- A round starts with the pods in use in ascending order, none of them handed over (R63). -/
theorem roundLaw_roundStart (kind : TriggerKind) (delayed : Bool) (s : State) :
    RoundLaw (roundStart kind delayed s) := by
  have ha : ((List.finRange 12).filter fun p => podInUse p s).Pairwise (· < ·) :=
    (List.pairwise_lt_finRange 12).filter _
  unfold roundStart
  simp only
  split
  · refine (roundLaw_unread_iff (by simp) (by simp) (by simp)).mpr fun _ => ?_
    exact ⟨⟨ha, rfl, rfl, rfl⟩, by simp⟩
  · exact roundLaw_roundGoesOn fun _ => ⟨ha, rfl, rfl, rfl⟩

theorem roundLaw_trigger {s : State} (hl : RoundLaw s) (kind : TriggerKind) : RoundLaw (trigger kind s) := by
  unfold trigger
  split
  · exact hl
  · split
    · exact hl
    · split
      · exact SameAccounts.roundLaw (.of_round (by simp) (by simp)) hl
      · exact roundLaw_roundStart _ _ _

theorem roundLaw_advanceGroup {s : State} (hl : RoundLaw s) (g : Fin 4) : RoundLaw (advanceGroup g s) := by
  have hput (x : Group) : RoundLaw (putGroup g x s) := (SameAccounts.of_strain (strain_putGroup g x s)).roundLaw hl
  unfold advanceGroup peakTrigger troughTrigger
  simp only
  split
  · exact hput _
  · split
    · exact roundLaw_trigger (hput _) _
    · exact hput _
  · split
    · exact roundLaw_trigger (hput _) _
    · exact hput _
  · exact (SameAccounts.of_strain (strain_wrapAtCracks _ _ _)).roundLaw (hput _)

theorem roundLaw_sampleSet {s : State} (hl : RoundLaw s) (counts : Vector (BitVec 16) 28) :
    RoundLaw (sampleSet counts s) := by
  cases hs : s.scanEnds with
  | none =>
    simp only [sampleSet, hs]
    exact hl
  | some e =>
    have hr : strain (takeAux counts (forAll (takeRam counts) (atScanEnd e s))) = strain s := by
      rw [strain_takeAux, strain_forAll (strain_takeRam counts), strain_atScanEnd]
    rw [sampleSet_eq hs]
    refine (SameAccounts.of_strain (strain_evalWhere _ _)).roundLaw ?_
    exact forAll_invariant (P := RoundLaw) (fun g t ht => roundLaw_advanceGroup ht g)
      ((SameAccounts.of_strain hr).roundLaw hl)

/-! ## The reads -/

/-- After a handover, or a miss whose clear has ended, the list loses its head (R70). -/
theorem roundLaw_nextPod {s : State}
    (h : s.round.restarting = false → s.round.pods.Pairwise (· < ·) ∧
      s.round.todo.tail = s.round.pods.drop (s.round.podsRead + s.round.podsMissed)) : RoundLaw (nextPod s) := by
  rw [nextPod_eq]
  split
  · exact roundLaw_of_idle (roundState_completeRound _ _)
  next hne =>
    refine (roundLaw_read_iff rfl).mpr fun hn => ?_
    obtain ⟨ha, ht⟩ := h hn
    exact ⟨ha, ht, List.isEmpty_eq_false_iff.mp (Bool.eq_false_iff.mpr hne)⟩

theorem tail_eq_drop {α : Type} {l k : List α} {n : Nat} (h : l = k.drop n) : l.tail = k.drop (n + 1) := by
  rw [h, List.tail_drop]

theorem roundLaw_podReadDone {s : State} (hl : RoundLaw s) (reply : PodReply) : RoundLaw (podReadDone reply s) := by
  by_cases h : s.plan.roundState = .read ∧ s.round.restarting = false
  · obtain ⟨hs, hn⟩ := h
    obtain ⟨ha, ht, hne⟩ := (roundLaw_read_iff hs).mp hl hn
    obtain ⟨p, rest, htodo⟩ := List.exists_cons_of_ne_nil hne
    rw [podReadDone_eq hs hn htodo]
    refine roundLaw_nextPod fun _ => ?_
    have htail := tail_eq_drop ht
    rw [round_podTaken]
    split
    · exact ⟨ha, by simpa [readEnds, Nat.add_right_comm] using htail⟩
    · exact ⟨ha, by simpa [readEnds, Nat.add_assoc] using htail⟩
  · rwa [podReadDone, if_neg h]

theorem roundLaw_latchBroadcastDone {s : State} (hl : RoundLaw s) (addrAck dataAck : Bool) :
    RoundLaw (latchBroadcastDone addrAck dataAck s) := by
  unfold latchBroadcastDone
  simp only
  split
  next h =>
    obtain ⟨hs, hn⟩ := h
    obtain ⟨⟨ha, ht, hrd, hm⟩, -⟩ := (roundLaw_unread_iff (by simp [hs]) (by simp [hs]) (by simp [hs])).mp hl hn
    split
    · exact roundLaw_of_idle (roundState_completeRound _ _)
    next hne =>
      refine (roundLaw_unread_iff (by simp [enterWait]) (by simp [enterWait]) (by simp [enterWait])).mpr fun _ => ?_
      exact ⟨⟨ha, ht, hrd, hm⟩, fun _ => List.isEmpty_eq_false_iff.mp (Bool.eq_false_iff.mpr hne)⟩
  · exact hl

theorem roundLaw_latchWaitExpiry {s : State} (hl : RoundLaw s) : RoundLaw (latchWaitExpiry s) := by
  unfold latchWaitExpiry
  simp only
  split
  next hs =>
    refine (roundLaw_read_iff rfl).mpr fun hn => ?_
    obtain ⟨⟨ha, ht, hrd, hm⟩, hw⟩ := (roundLaw_unread_iff (by simp [hs]) (by simp [hs]) (by simp [hs])).mp hl hn
    exact ⟨ha, by simpa [hrd, hm] using ht, by simpa [ht] using hw hs⟩
  · exact hl

/-! ## Stretch timeouts and bus clears -/

theorem roundLaw_clearLatch {s : State} (hs : s.plan.roundState = .latch) (hl : RoundLaw s) (clk : Nat) :
    RoundLaw (clearStart .latch (setRound { s.round with latchAnswered := false } (passTo clk s))) := by
  refine (roundLaw_unread_iff (by simp [clearStart_eq]) (by simp [clearStart_eq]) (by simp [clearStart_eq])).mpr
    fun hn => ?_
  obtain ⟨⟨ha, ht, hrd, hm⟩, -⟩ := (roundLaw_unread_iff (by simp [hs]) (by simp [hs]) (by simp [hs])).mp hl hn
  exact ⟨⟨ha, ht, hrd, hm⟩, by simp [clearStart_eq]⟩

theorem roundLaw_stretchTimeout {s : State} (hl : RoundLaw s) : RoundLaw (stretchTimeout s) := by
  unfold stretchTimeout
  simp only
  split
  next hs => exact roundLaw_clearLatch hs hl _
  next hs =>
    cases hn : s.round.restarting with
    | true => exact roundLaw_of_restarting hn
    | false =>
      obtain ⟨ha, ht, hne⟩ := (roundLaw_read_iff hs).mp hl hn
      obtain ⟨p, rest, htodo⟩ := List.exists_cons_of_ne_nil hne
      rw [htodo]
      change RoundLaw (clearStart .pod (roundMiss p .stretch (passTo (stretchEnd s) s)))
      refine (roundLaw_clearPod_iff (by simp [clearStart_eq]) (by simp [clearStart_eq])).mpr fun _ => ?_
      simp only [clearStart_eq, round_roundMiss]
      exact ⟨by simp, ha, ht, hne⟩
  all_goals exact hl

/-- The round goes on from a bus clear that has succeeded, its STOP sent (R63, R66, R70, R77). -/
def afterClear (t : State) : State :=
  if t.round.restarting then endRestartedRound t
  else
    match t.round.clearFor with
    | .start => latchStart t
    | .latch => if t.round.pods.isEmpty then completeRound false t else enterWait t
    | .pod => nextPod t

theorem clearSucceeded_eq (s : State) : clearSucceeded s = afterClear (stopSent (setBusState .ok s)) := rfl

theorem roundLaw_afterClear {s : State} (hs : s.plan.roundState = .clear) (hl : RoundLaw s) :
    RoundLaw (afterClear s) := by
  unfold afterClear
  split
  · exact roundLaw_of_idle rfl
  next hn =>
    have hn : s.round.restarting = false := Bool.eq_false_iff.mpr hn
    have unread (hc : s.round.clearFor ≠ .pod) : s.round.Unread :=
      ((roundLaw_unread_iff (by simp [hs]) (by simp [hs]) (fun _ => hc)).mp hl hn).1
    split
    next hc =>
      obtain ⟨ha, ht, hrd, hm⟩ := unread (by simp [hc])
      rw [latchStart_eq]
      exact (roundLaw_unread_iff (by simp) (by simp) (by simp)).mpr fun _ => ⟨⟨ha, ht, hrd, hm⟩, by simp⟩
    next hc =>
      obtain ⟨ha, ht, hrd, hm⟩ := unread (by simp [hc])
      split
      · exact roundLaw_of_idle (roundState_completeRound _ _)
      next hne =>
        refine (roundLaw_unread_iff (by simp [enterWait]) (by simp [enterWait]) (by simp [enterWait])).mpr fun _ => ?_
        exact ⟨⟨ha, ht, hrd, hm⟩, fun _ => List.isEmpty_eq_false_iff.mp (Bool.eq_false_iff.mpr hne)⟩
    next hc =>
      obtain ⟨hm, ha, ht, -⟩ := (roundLaw_clearPod_iff hs hc).mp hl hn
      refine roundLaw_nextPod fun _ => ⟨ha, ?_⟩
      rw [tail_eq_drop ht, Nat.sub_add_cancel (by omega)]

theorem roundLaw_clearSucceeded {s : State} (hs : s.plan.roundState = .clear) (hl : RoundLaw s) :
    RoundLaw (clearSucceeded s) := by
  have h : SameAccounts s (stopSent (setBusState .ok s)) := by constructor <;> simp [setBusState]
  rw [clearSucceeded_eq]
  exact roundLaw_afterClear (h.state.trans hs) (h.roundLaw hl)

theorem roundLaw_clearFailed (s : State) : RoundLaw (clearFailed s) := by
  unfold clearFailed
  simp only
  split
  · exact roundLaw_of_idle rfl
  · split <;> exact roundLaw_of_idle (roundState_completeRound _ _)

theorem roundLaw_busClearDone {s : State} (hl : RoundLaw s) (result : BusClearEnd) :
    RoundLaw (busClearDone result s) := by
  unfold busClearDone
  simp only
  split
  next hs =>
    split
    · exact roundLaw_clearSucceeded hs hl
    all_goals exact roundLaw_clearFailed _
  · exact hl

/-! ## Requests -/

theorem event_roundLaw {f : State → State} {s t : State} (hl : RoundLaw s) (hf : RoundLaw (f s))
    (h : event f s = .next t) : RoundLaw t := by
  unfold event at h
  split at h
  · cases h
    exact hl
  · cases h
    exact hf

theorem takeRequest_roundLaw {c : Instr} {f : State → State} {s : State} (hl : RoundLaw s) (hf : RoundLaw (f s)) :
    RoundLaw (takeRequest c f s) := by
  unfold takeRequest
  split
  · exact hf
  · exact (SameAccounts.of_strain (strain_portCheck s)).roundLaw hl

theorem request_roundLaw {c : Instr} {body : State → Response × State} {s t : State} (hl : RoundLaw s)
    (hb : RoundLaw (body s).2) (h : request c body s = .next t) : RoundLaw t :=
  event_roundLaw hl
    (takeRequest_roundLaw hl ((SameAccounts.of_strain (strain_answer (body s).1 (body s).2)).roundLaw hb)) h

theorem roundLaw_setPort {s : State} (hl : RoundLaw s) (p : Port) : RoundLaw { s with port := p } := hl

theorem sameAccounts_writeHall (pairs : List (Nat × Int)) (s : State) : SameAccounts s (writeHall pairs s) := by
  have hn : noteLimit pairs s = { s.round with limitWrites := (noteLimit pairs s).limitWrites } := by
    unfold noteLimit
    repeat' split
    all_goals rfl
  have hr : (writeHall pairs s).round = noteLimit pairs s ∧ (writeHall pairs s).plan = s.plan := by
    unfold writeHall
    simp only
    split <;> exact ⟨rfl, rfl⟩
  obtain ⟨hr, hp⟩ := hr
  rw [hn] at hr
  constructor <;> simp [hr, hp]

/-- No field of a PLAN record that a WRITE can name is round_state (Table 4-3). -/
theorem roundState_put (f : Nat) (v : Int) (p : Plan) : (p.put f v).roundState = p.roundState := by
  unfold Plan.put
  split <;> rfl

theorem sameAccounts_writePlan (pairs : List (Nat × Int)) (s : State) : SameAccounts s (writePlan pairs s) := by
  have hp : (putAll Plan.put pairs s.plan).roundState = s.plan.roundState :=
    putAll_invariant (P := fun p : Plan => p.roundState = s.plan.roundState)
      (fun p _ y hy => (roundState_put _ _ y).trans hy) rfl
  unfold writePlan
  simp only
  split <;> exact ⟨hp, rfl, rfl, rfl, rfl, rfl, rfl⟩

theorem hands_writeGauge (k : Fin 48) (pairs : List (Nat × Int)) (s : State) : Hands s (writeGauge k pairs s) := by
  have hg (t : State) (v : Vector GPod 12) : Hands t { t with gpods := v } := Eq.refl _
  unfold writeGauge
  simp only
  split
  · split
    · exact hands_putGauge _ _ s
    · split
      · split
        · exact hands_putGauge _ _ s
        · exact (hands_putGauge _ _ s).trans (hg _ _)
      · exact hands_putGauge _ _ s
  · exact hands_putGauge _ _ s

theorem SameAccounts.of_hands {s t : State} (h : Hands s t) : SameAccounts s t := by
  obtain ⟨hr, hp⟩ := h.round_plan
  exact .of_round (by rw [hp]) hr

theorem sameAccounts_applyWrite (r : RecordId) (pairs : List (Nat × Int)) (s : State) :
    SameAccounts s (applyWrite r pairs s) := by
  cases r with
  | hall => exact sameAccounts_writeHall pairs s
  | plan => exact sameAccounts_writePlan pairs s
  | gauge k => exact .of_hands (hands_writeGauge k pairs s)
  | _ => exact .of_strain (strain_applyWrite (by simp) (by simp) (by simp) pairs s)

theorem sameAccounts_writeRecord (kind key : Byte) (items : List Byte) (s : State) :
    SameAccounts s (writeRecord kind key items s).2 := by
  unfold writeRecord
  repeat' split
  all_goals first
    | exact sameAccounts_applyWrite _ _ s
    | exact .of_round rfl rfl

theorem roundLaw_restartRound {s : State} (hl : RoundLaw s) : RoundLaw (restartRound s) := by
  unfold restartRound
  simp only
  split
  · exact SameAccounts.roundLaw (s := s) ⟨rfl, rfl, rfl, rfl, rfl, rfl, rfl⟩ hl
  iterate 2 exact roundLaw_of_idle rfl
  all_goals exact roundLaw_of_restarting rfl

theorem roundLaw_restartBlocks {s : State} (hl : RoundLaw s) : RoundLaw (restartBlocks s) := by
  have hrams (r : Fin 8) (t : State) : strain (restartRam r t) = strain t := by simp [restartRam]
  have hlimits (i : Fin 24) (t : State) : strain (restartLimit i t) = strain t := by
    unfold restartLimit
    simp only
    repeat' split
    all_goals simp
  have hgroups (g : Fin 4) (t : State) : strain (restartGroup g t) = strain t := strain_putGroup _ _ _
  have h := (strain_forAll hlimits _).trans ((strain_forAll hgroups _).trans (strain_forAll hrams s))
  exact (SameAccounts.of_strain (strain_restartLine _)).roundLaw
    (roundLaw_restartRound ((SameAccounts.of_strain h).roundLaw hl))

theorem roundLaw_restartComplete {s : State} (hl : RoundLaw s) : RoundLaw (restartComplete s) := by
  unfold restartComplete
  simp only
  split
  · split
    · exact roundLaw_of_idle rfl
    · exact SameAccounts.roundLaw (.of_round rfl rfl) hl
  · exact hl

theorem sameAccounts_setArmed (b : Bool) (s : State) : SameAccounts s (setArmed b s) :=
  .of_round (by simp [setArmed]) (by simp [setArmed])

theorem sameAccounts_restartTimer (s : State) : SameAccounts s (restartTimer s) := ⟨rfl, rfl, rfl, rfl, rfl, rfl, rfl⟩

theorem roundLaw_onGauges {s : State} (hl : RoundLaw s) (sel : Byte) (f : Gauge → Gauge) :
    RoundLaw (onGauges sel f s).2 := by
  refine SameAccounts.roundLaw ?_ hl
  unfold onGauges
  simp only
  repeat' split
  all_goals exact .of_round rfl rfl

/-! ## Every step -/

theorem exec_keeps_roundLaw {c : Instr} {s t : State} (hl : RoundLaw s) (h : exec c s = .next t) : RoundLaw t := by
  have hw {c : Instr} {kind key : Byte} {items : List Byte} (h : request c (writeRecord kind key items) s = .next t) :
      RoundLaw t := request_roundLaw hl ((sameAccounts_writeRecord kind key items s).roundLaw hl) h
  cases c with
  | powerOnReset hpu estop =>
    cases h
    exact roundLaw_of_idle rfl
  | controlTick =>
    exact event_roundLaw (f := controlTick) hl
      (SameAccounts.roundLaw (s := s) ⟨rfl, rfl, rfl, rfl, rfl, rfl, rfl⟩ hl) h
  | sampleSet counts => exact event_roundLaw hl (roundLaw_sampleSet hl counts) h
  | write kind key items => exact hw h
  | stepWrite kind key items => exact hw h
  | seatLoadWrite group items => exact hw h
  | zoneWrite group items => exact hw h
  | gaugeEnable gauge items => exact hw h
  | gaugeDisable gauge items => exact hw h
  | apodEnable pod items => exact hw h
  | apodDisable pod items => exact hw h
  | planWrite key items => exact hw h
  | pwmPeriodWrite key items => exact hw h
  | attentionMaskWrite key items => exact hw h
  | limitDefine slot items => exact hw h
  | limitEdit slot items => exact hw h
  | limitEnable slot items => exact hw h
  | limitDisable slot items => exact hw h
  | restart =>
    refine event_roundLaw hl (takeRequest_roundLaw hl ?_) h
    exact roundLaw_setPort (roundLaw_restartBlocks hl) _
  | restartComplete => exact event_roundLaw hl (roundLaw_restartComplete hl) h
  | gaugeRound =>
    refine request_roundLaw hl ?_ h
    unfold roundRequest
    split
    · exact roundLaw_roundStart _ _ _
    · exact hl
  | gaugeArmArm =>
    refine request_roundLaw (body := fun s => (ok, restartTimer (setArmed true s))) hl ?_ h
    exact (sameAccounts_restartTimer _).roundLaw ((sameAccounts_setArmed true s).roundLaw hl)
  | gaugeArmDisarm =>
    exact request_roundLaw (body := fun s => (ok, setArmed false s)) hl ((sameAccounts_setArmed false s).roundLaw hl) h
  | gaugeZero sel => exact request_roundLaw hl (roundLaw_onGauges hl sel _) h
  | peakReset sel => exact request_roundLaw hl (roundLaw_onGauges hl sel _) h
  | intervalTimerExpiry =>
    refine event_roundLaw hl ?_ h
    unfold intervalTimerExpiry
    split
    · exact roundLaw_trigger ((sameAccounts_restartTimer s).roundLaw hl) _
    · exact hl
  | cyclicStart =>
    refine event_roundLaw hl ?_ h
    unfold cyclicStart
    split
    · exact roundLaw_roundStart _ _ _
    · exact hl
  | delayExpiry =>
    refine event_roundLaw hl ?_ h
    unfold delayExpiry
    split
    next hd =>
      refine roundLaw_roundGoesOn fun hn => ?_
      exact ((roundLaw_unread_iff (by simp [hd]) (by simp [hd]) (by simp [hd])).mp hl hn).1
    · exact hl
  | latchBroadcastDone addrAck dataAck => exact event_roundLaw hl (roundLaw_latchBroadcastDone hl addrAck dataAck) h
  | latchWaitExpiry => exact event_roundLaw hl (roundLaw_latchWaitExpiry hl) h
  | podReadDone reply => exact event_roundLaw hl (roundLaw_podReadDone hl reply) h
  | stretchTimeout => exact event_roundLaw hl (roundLaw_stretchTimeout hl) h
  | busClearDone result => exact event_roundLaw hl (roundLaw_busClearDone hl result) h
  | _ => exact (SameAccounts.of_strain (exec_strain rfl h)).roundLaw hl

/-- Settles O58: in every round state the accounts are those of a list of which the pods handed over are the front, and
each command moves them from one state's form to the next. -/
theorem everyStepKeepsTheRoundAccounts : Obligations.EveryStepKeepsTheRoundAccounts := by
  intro s t hl h
  unfold step at h
  split at h
  next c rest _ => exact exec_keeps_roundLaw (s := { s with pending := rest }) hl h
  · cases h
    unfold idleCycle
    split
    · exact hl
    · refine (SameAccounts.of_strain ?_).roundLaw hl
      simp

end Sys2Proof.Machine
end

section
/-! Triggers, the start of a round, its timers and the requests of the round plan: an equation for each case. -/

namespace Sys2Proof.Machine

/-! ## The start of a round (R63, R65) -/

theorem podInUse_eq (p : Fin 12) (s : State) :
    podInUse p s = decide (∃ i : Fin 4, s.gauges[gaugeOf p i].enabled = true) := by
  rw [Bool.eq_iff_iff]
  simp [podInUse]

theorem roundGoesOn_ok {s : State} (h : s.plan.busState = .ok) :
    roundGoesOn s =
      { s with
        clk := max s.clk s.round.busFree
        plan := { s.plan with roundState := .latch }
        round :=
          { s.round with
            latchTime := hallTime { s with clk := max s.clk s.round.busFree }
            trigCommand := roundDiv s.groups[s.round.group].command 1024
            trigLifeCycles := s.groups[s.round.group].lifeCycles
            busStart := max s.clk s.round.busFree
            limitWrites := [] } } := by
  rw [roundGoesOn, h, if_neg (by simp), latchStart_eq]
  rfl

theorem roundGoesOn_fault {s : State} (h : s.plan.busState = .fault) :
    roundGoesOn s =
      { s with
        plan := { s.plan with roundState := .clear }
        round := { s.round with clearFor := .start, busStart := s.clk, limitWrites := [] } } := by
  rw [roundGoesOn, h, if_pos rfl, clearStart_eq]

/-- What the start of a round fixes (R63, R72). -/
def Round.begun (kind : TriggerKind) (s : State) : Round :=
  { s.round with
    kind := kind
    group := s.plan.trigGroup
    pods := (List.finRange 12).filter fun p => podInUse p s
    todo := (List.finRange 12).filter fun p => podInUse p s
    latchAnswered := false
    podsRead := 0
    podsMissed := 0
    cyclicDue := false
    restarting := false }

theorem roundStart_delayed {s : State} (h : 0 < s.plan.delayPeriods) (kind : TriggerKind) :
    roundStart kind true s =
      { s with
        plan := { s.plan with roundState := .delay }
        round := { Round.begun kind s with delayCount := s.plan.delayPeriods } } := by
  simp only [roundStart, h, decide_true, Bool.and_self, if_true]
  rfl

theorem roundStart_undelayed {delayed : Bool} {s : State} (h : delayed = false ∨ s.plan.delayPeriods = 0)
    (kind : TriggerKind) : roundStart kind delayed s = roundGoesOn (setRound (Round.begun kind s) s) := by
  have hd : (delayed && decide (0 < s.plan.delayPeriods)) = false := by rcases h with h | h <;> simp [h]
  rw [roundStart, hd]
  rfl

/-! ## Triggers (R73) -/

theorem trigger_discarded {s : State} (h : s.plan.mode = .cyclic ∨ s.plan.armed = false) (kind : TriggerKind) :
    trigger kind s = s := by
  rcases h with h | h <;> simp [trigger, h]

theorem trigger_missed {s : State} (hm : s.plan.mode ≠ .cyclic) (ha : s.plan.armed = true)
    (hi : s.plan.roundState ≠ .idle) (kind : TriggerKind) :
    trigger kind s =
      markIf (s.plan.missedTriggers == 0) .plan
        (setPlan { s.plan with missedTriggers := satInc max32 s.plan.missedTriggers } s) := by
  simp [trigger, hm, ha, hi]

theorem trigger_starts {s : State} (hm : s.plan.mode ≠ .cyclic) (ha : s.plan.armed = true)
    (hi : s.plan.roundState = .idle) (kind : TriggerKind) :
    trigger kind s = roundStart kind true (if s.plan.mode = .single then setArmed false s else s) := by
  simp [trigger, hm, ha, hi]

/-- The PLAN mark set where a condition holds. -/
theorem markIf_planMark (b : Bool) (s : State) :
    markIf b .plan s = { s with marks := { s.marks with plan := s.marks.plan || b } } := by
  cases b
  · simp [markIf]
  · simp [markIf, mark, Marks.put]

theorem setArmed_eq (b : Bool) (s : State) :
    setArmed b s =
      { s with
        plan := { s.plan with armed := b }
        marks := { s.marks with plan := s.marks.plan || (b != s.plan.armed) } } := by
  rw [setArmed, markIf_planMark]
  rfl

/-- Settles O19, by the cases of the start of a round and of a trigger. -/
theorem triggersStartRounds : Obligations.TriggersStartRounds := by
  refine ⟨fun kind delayed s => ?_, fun s => ⟨fun g => ⟨?_, ?_, ?_, ?_⟩, fun kind => ⟨?_, ?_, ?_, ?_⟩⟩⟩
  · simp only [← podInUse_eq]
    refine ⟨?_, fun h => ⟨fun hb => ?_, fun hb => ?_⟩⟩
    · rintro rfl h
      exact roundStart_delayed h kind
    · exact (roundStart_undelayed h kind).trans (roundGoesOn_ok (s := setRound (Round.begun kind s) s) hb)
    · exact (roundStart_undelayed h kind).trans (roundGoesOn_fault (s := setRound (Round.begun kind s) s) hb)
  · exact fun h => if_pos h
  · exact fun h => if_neg h
  · exact fun h => if_pos h
  · exact fun h => if_neg h
  · exact fun h => trigger_discarded h kind
  · intro hm ha hi
    rw [trigger_missed hm ha hi, markIf_planMark]
    rfl
  · intro hm ha hi
    rw [trigger_starts (by simp [hm]) ha hi, if_neg (by simp [hm])]
  · intro hm ha hi
    rw [trigger_starts (by simp [hm]) ha hi, if_pos hm, setArmed_eq, ha]
    simp

/-! ## Timers and requests (R64, R73 to R75) -/

theorem delayExpiry_due {s : State} (hs : s.plan.roundState = .delay) (hd : s.round.delayCount = 0) :
    delayExpiry s = roundGoesOn s := if_pos ⟨hs, hd⟩

theorem roundRequest_idle {s : State} (h : s.plan.roundState = .idle) :
    roundRequest s = (ok, roundStart .supervisor false s) := if_pos h

theorem roundRequest_busy {s : State} (h : s.plan.roundState ≠ .idle) :
    roundRequest s = (refuse .wrongState, s) := if_neg h

/-- Settles O20: each timer by whether its count or flag stands, each request by its owner's answer. -/
theorem roundTimersAndRequestsAct : Obligations.RoundTimersAndRequestsAct := by
  refine ⟨fun s hr => ⟨?_, ?_, ?_, ?_, ?_, ?_, ?_⟩, fun s => ⟨?_, ?_, ?_, ?_⟩⟩
  · intro hs hc
    exact (event_out hr).trans (congrArg _ (if_pos ⟨hs, hc⟩))
  · intro h
    exact (event_out hr).trans (congrArg _ (if_neg (not_and_or.mpr h)))
  · intro hd hi hm ha
    exact (event_out hr).trans (congrArg _ (if_pos ⟨hd, hi, hm, ha⟩))
  · intro h
    refine (event_out hr).trans (congrArg _ (if_neg ?_))
    rintro ⟨hd, hi, hm, ha⟩
    simp_all
  · intro hs hd hb
    exact (event_out hr).trans (congrArg _ ((delayExpiry_due hs hd).trans (roundGoesOn_ok hb)))
  · intro hs hd hb
    exact (event_out hr).trans (congrArg _ ((delayExpiry_due hs hd).trans (roundGoesOn_fault hb)))
  · intro h
    exact (event_out hr).trans (congrArg _ (if_neg (not_and_or.mpr h)))
  · intro hd hi
    have hport : (roundStart .supervisor false s).port = s.port := by
      rw [show roundStart _ _ s = _ from plans_roundStart _ _ s]
    refine (request_due hd).trans ?_
    rw [roundRequest_idle hi, answered, ← hport]
    rfl
  · intro hd hi
    exact request_due_idle hd (roundRequest_busy hi)
  · intro hd
    refine (request_due (body := fun s => (ok, restartTimer (setArmed true s))) hd).trans ?_
    simp only [setArmed_eq, restartTimer, Bool.true_xor]
    rfl
  · intro hd
    refine (request_due (body := fun s => (ok, setArmed false s)) hd).trans ?_
    simp only [setArmed_eq, Bool.false_xor]
    rfl

end Sys2Proof.Machine
end

section
/-! What the limits that watch gauges can touch, and when none of them acts; the summary of a completed round. -/

namespace Sys2Proof.Machine

/-! ## The protection path and the marks -/

/-- Only rams, groups, limits and their marks differ. -/
def Guards (s t : State) : Prop :=
  t = { s with
        rams := t.rams, groups := t.groups, limits := t.limits,
        marks := { s.marks with ram := t.marks.ram, group := t.marks.group, limit := t.marks.limit } }

theorem Guards.rfl (s : State) : Guards s s := Eq.refl s

theorem Guards.trans {a b c : State} (h : Guards a b) (k : Guards b c) : Guards a c := by
  unfold Guards at *
  rw [k, h]

theorem guards_limitPath : LimitPath Guards where
  refl := Guards.rfl
  trans := Guards.trans
  putGroup g x s := by
    unfold putGroup markIf
    simp only
    split <;> exact Eq.refl _
  trip r s _ := Eq.refl _
  putLimit i x s := by
    unfold putLimit markIf
    split <;> exact Eq.refl _

/-- The evaluations of one event touch the protection path alone (R160). -/
theorem guards_evalWhere (p : Limit → Bool) (s : State) : Guards s (evalWhere p s) := guards_limitPath.evalWhere p s

/-- An event that no defined limit hears evaluates none. -/
theorem evalWhere_unheard {p : Limit → Bool} {s : State}
    (h : ∀ (i : Fin 24) (l : Limit), s.limits[i] = some l → p l = false) : evalWhere p s = s :=
  forAll_idle fun i => if_neg <| by
    cases hl : s.limits[i] with
    | none => simp
    | some l => simp [h i l hl]

theorem LimitsRest.trans {a b c : State} (h : LimitsRest a b) (k : LimitsRest b c) : LimitsRest a c := by
  obtain ⟨h1, h2, h3, h4, h5, h6⟩ := h
  obtain ⟨k1, k2, k3, k4, k5, k6⟩ := k
  exact ⟨k1.trans h1, k2.trans h2, k3.trans h3, k4.trans h4, k5.trans h5, k6.trans h6⟩

theorem LimitsRest.noStrainLimit {s t : State} (h : LimitsRest s t) {p : Fin 12} (hp : NoStrainLimit s p) :
    NoStrainLimit t p := by
  obtain ⟨-, -, hl, -, -, -⟩ := h
  intro i l
  rw [hl]
  exact hp i l

theorem isGaugeOfPods_unheard {ps : List (Fin 12)} {s : State} (h : ∀ p ∈ ps, NoStrainLimit s p) (i : Fin 24)
    (l : Limit) (hl : s.limits[i] = some l) : l.isGaugeOfPods ps = false := by
  rw [Bool.eq_false_iff]
  intro hw
  simp only [Limit.isGaugeOfPods, Bool.and_eq_true, beq_iff_eq, List.any_eq_true] at hw
  obtain ⟨hsource, p, hp, hkey⟩ := hw
  exact h p hp i l hl hsource hkey

theorem isGaugeOf_unheard {k : Fin 48} {s : State} (h : NoStrainLimit s (podOf k)) (i : Fin 24) (l : Limit)
    (hl : s.limits[i] = some l) : l.isGaugeOf k = false := by
  rw [Bool.eq_false_iff]
  intro hw
  simp only [Limit.isGaugeOf, Bool.and_eq_true, beq_iff_eq] at hw
  obtain ⟨hsource, hkey⟩ := hw
  exact h i l hl hsource (by rw [hkey]; rfl)

/-! ## Completion (R71, R74) -/

/-- The PLAN record with the summary of round r. -/
def Plan.summarised (aborted : Bool) (r : Round) (p : Plan) : Plan :=
  { p with
    roundState := .idle
    roundNumber := satInc max32 p.roundNumber
    trigger := r.kind
    latchTime := r.latchTime
    trigCommand := r.trigCommand
    trigLifeCycles := r.trigLifeCycles
    latchAnswered := r.latchAnswered
    aborted := aborted
    podsRead := r.podsRead
    podsMissed := r.podsMissed }

theorem writeSummary_eq (aborted : Bool) (s : State) :
    writeSummary aborted s =
      { s with
        plan := { s.plan.summarised aborted s.round with roundState := s.plan.roundState }
        marks := { s.marks with plan := s.marks.plan || aborted } } := by
  rw [writeSummary, markIf_planMark]
  rfl

theorem endRound_eq (s : State) :
    endRound s =
      { s with
        plan := { s.plan with roundState := .idle }
        round := { s.round with restFlag := s.round.restFlag || decide (s.plan.mode = .cyclic) } } := by
  unfold endRound
  split
  next h => simp [setRound, setPlan, h]
  next h => simp [setPlan, h]

/-- From s to t the summary is written and the round ended; beside that only the protection path differs. -/
def Completes (aborted : Bool) (s t : State) : Prop :=
  t = { s with
        plan := s.plan.summarised aborted s.round
        round := { s.round with restFlag := s.round.restFlag || decide (s.plan.mode = .cyclic) }
        rams := t.rams, groups := t.groups, limits := t.limits,
        marks :=
          { s.marks with
            plan := s.marks.plan || aborted, ram := t.marks.ram, group := t.marks.group,
            limit := t.marks.limit } }

theorem completes_completeRound (aborted : Bool) (s : State) : Completes aborted s (completeRound aborted s) := by
  have h : Guards _ _ := guards_evalWhere (Limit.isGaugeOfPods s.round.pods) (writeSummary aborted s)
  unfold Guards at h
  simp only [Completes, completeRound_eq, endRound_eq]
  generalize evalWhere _ _ = v at h
  rw [h, writeSummary_eq]
  rfl

theorem Completes.plan {aborted : Bool} {s t : State} (h : Completes aborted s t) :
    t.plan = s.plan.summarised aborted s.round := by
  rw [show t = _ from h]

theorem Completes.round {aborted : Bool} {s t : State} (h : Completes aborted s t) :
    t.round = { s.round with restFlag := s.round.restFlag || decide (s.plan.mode = .cyclic) } := by
  rw [show t = _ from h]

/-- With no limit on a gauge of the round, a completion moves nothing of the protection path. -/
theorem completeRound_limitsRest (aborted : Bool) {s : State} (h : ∀ p ∈ s.round.pods, NoStrainLimit s p) :
    LimitsRest s (completeRound aborted s) := by
  have hu : evalWhere (Limit.isGaugeOfPods s.round.pods) (writeSummary aborted s) = writeSummary aborted s := by
    refine evalWhere_unheard fun i l hl => isGaugeOfPods_unheard h i l ?_
    rwa [writeSummary_eq] at hl
  rw [completeRound_eq, hu, endRound_eq, writeSummary_eq]
  exact ⟨rfl, rfl, rfl, rfl, rfl, rfl⟩

/-- Settles O22: the summary is written first, the limits hear of it, and the round ends. -/
theorem completionWritesTheSummary : Obligations.CompletionWritesTheSummary := by
  intro aborted s
  have ht := completes_completeRound aborted s
  refine ⟨?_, ht.plan, ht.round, completeRound_limitsRest aborted⟩
  rw [ht.plan, ht.round]
  exact ht

end Sys2Proof.Machine
end

section
/-! Handovers to the gauge records and the gauge pods: what they touch, and what each gauge, pod and mark holds after them. -/

namespace Sys2Proof.Machine

/-! ## What a handover touches -/

/-- Only gauges and their marks, and the protection path, differ. -/
def GaugesTake (s t : State) : Prop :=
  t = { s with
        gauges := t.gauges, rams := t.rams, groups := t.groups, limits := t.limits,
        marks :=
          { s.marks with
            gauge := t.marks.gauge, ram := t.marks.ram, group := t.marks.group, limit := t.marks.limit } }

theorem GaugesTake.rfl (s : State) : GaugesTake s s := Eq.refl s

theorem GaugesTake.trans {a b c : State} (h : GaugesTake a b) (k : GaugesTake b c) : GaugesTake a c := by
  unfold GaugesTake at *
  rw [k, h]

theorem Guards.gaugesTake {s t : State} (h : Guards s t) : GaugesTake s t := by
  unfold Guards at h
  unfold GaugesTake
  rw [h]

/-- A gauge's mark set where a condition holds. -/
theorem markIf_gaugeMark (b : Bool) (k : Fin 48) (s : State) :
    markIf b (.gauge k) s =
      { s with marks := { s.marks with gauge := s.marks.gauge.set k (s.marks.gauge[k] || b) } } := by
  cases b
  · simp [markIf]
  · simp [markIf, mark, Marks.put]

theorem setGauge_eq (k : Fin 48) (x : Gauge) (s : State) :
    setGauge k x s =
      { s with
        gauges := s.gauges.set k x
        marks :=
          { s.marks with
            gauge := s.marks.gauge.set k (s.marks.gauge[k] || decide (x.state ≠ s.gauges[k].state)) } } := by
  have hb : (x.state != s.gauges[k].state) = decide (x.state ≠ s.gauges[k].state) := by simp [bne, BEq.beq]
  rw [setGauge, markIf_gaugeMark, hb]

/-- A GAUGE record replaced: the limits that watch it may act after its mark (R88, R89). -/
theorem guards_setGauge_putGauge (k : Fin 48) (x : Gauge) (s : State) : Guards (setGauge k x s) (putGauge k x s) := by
  rw [putGauge_eq]
  split
  · exact Guards.rfl _
  · exact guards_evalWhere _ _

theorem gaugesTake_putGauge (k : Fin 48) (x : Gauge) (s : State) : GaugesTake s (putGauge k x s) := by
  refine GaugesTake.trans ?_ (guards_setGauge_putGauge k x s).gaugesTake
  rw [setGauge_eq]
  exact Eq.refl _

/-- An enabled gauge takes what f makes of it. -/
def visitGauge (k : Fin 48) (f : Gauge → Gauge) (s : State) : State :=
  if (s.gauges[k]).enabled then putGauge k (f s.gauges[k]) s else s

theorem handGauges_eq (p : Fin 12) (f : Fin 4 → Gauge → Gauge) (s : State) :
    handGauges p f s = forAll (fun c => visitGauge (gaugeOf p c) (f c)) s := rfl

theorem gaugesTake_visitGauge (k : Fin 48) (f : Gauge → Gauge) (s : State) : GaugesTake s (visitGauge k f s) := by
  unfold visitGauge
  split
  · exact gaugesTake_putGauge _ _ _
  · exact GaugesTake.rfl s

theorem gaugesTake_handGauges (p : Fin 12) (f : Fin 4 → Gauge → Gauge) (s : State) : GaugesTake s (handGauges p f s) :=
  forAll_relation GaugesTake.rfl (fun _ _ _ => GaugesTake.trans) (fun c => gaugesTake_visitGauge (gaugeOf p c) (f c)) s

/-! ## What one gauge holds after a handover -/

/-- From s to t gauge k becomes g, and is marked where its state changes (R89). -/
def Takes (k : Fin 48) (g : Gauge) (s t : State) : Prop :=
  t.gauges[k] = g ∧ t.marks.gauge[k] = (s.marks.gauge[k] || decide (g.state ≠ s.gauges[k].state))

/-- Gauge k and its mark stand from s to t. -/
def GaugeStands (k : Fin 48) (s t : State) : Prop :=
  t.gauges[k] = s.gauges[k] ∧ t.marks.gauge[k] = s.marks.gauge[k]

theorem GaugeStands.rfl {k : Fin 48} (s : State) : GaugeStands k s s := ⟨Eq.refl _, Eq.refl _⟩

theorem GaugeStands.trans {k : Fin 48} {a b c : State} (h : GaugeStands k a b) (l : GaugeStands k b c) :
    GaugeStands k a c := ⟨l.1.trans h.1, l.2.trans h.2⟩

theorem GaugeStands.of_eq {k : Fin 48} {s t : State} (hg : t.gauges = s.gauges) (hm : t.marks.gauge = s.marks.gauge) :
    GaugeStands k s t := ⟨by rw [hg], by rw [hm]⟩

theorem GaugeStands.takes {k : Fin 48} {s t : State} (h : GaugeStands k s t) : Takes k s.gauges[k] s t := by
  obtain ⟨hg, hm⟩ := h
  exact ⟨hg, by simpa using hm⟩

theorem Takes.of_stands_left {k : Fin 48} {g : Gauge} {a b c : State} (h : GaugeStands k a b) (t : Takes k g b c) :
    Takes k g a c := by
  obtain ⟨hg, hm⟩ := h
  obtain ⟨tg, tm⟩ := t
  exact ⟨tg, by rw [tm, hm, hg]⟩

theorem Takes.of_stands_right {k : Fin 48} {g : Gauge} {a b c : State} (t : Takes k g a b) (h : GaugeStands k b c) :
    Takes k g a c := by
  obtain ⟨hg, hm⟩ := h
  obtain ⟨tg, tm⟩ := t
  exact ⟨hg.trans tg, hm.trans tm⟩

/-- The mark of a gauge as the statements give it. -/
theorem Takes.mark {k : Fin 48} {g : Gauge} {s t : State} (h : Takes k g s t) :
    t.marks.gauge[k] = (s.marks.gauge[k] || decide (t.gauges[k].state ≠ s.gauges[k].state)) := by
  obtain ⟨hg, hm⟩ := h
  rw [hg, hm]

theorem Guards.gaugeStands {s t : State} (h : Guards s t) (k : Fin 48) : GaugeStands k s t := by
  unfold Guards at h
  exact .of_eq (by rw [h]) (by rw [h])

theorem takes_putGauge_self (k : Fin 48) (x : Gauge) (s : State) : Takes k x s (putGauge k x s) := by
  refine Takes.of_stands_right ?_ ((guards_setGauge_putGauge k x s).gaugeStands k)
  rw [setGauge_eq]
  exact ⟨by simp, by simp⟩

theorem gaugeStands_putGauge_other {j k : Fin 48} (h : j ≠ k) (x : Gauge) (s : State) :
    GaugeStands k s (putGauge j x s) := by
  refine GaugeStands.trans ?_ ((guards_setGauge_putGauge j x s).gaugeStands k)
  rw [setGauge_eq]
  exact ⟨by rw [getElem_set_fin, if_neg h], by rw [getElem_set_fin, if_neg h]⟩

theorem takes_visitGauge_self (k : Fin 48) (f : Gauge → Gauge) (s : State) :
    Takes k (if s.gauges[k].enabled = true then f s.gauges[k] else s.gauges[k]) s (visitGauge k f s) := by
  unfold visitGauge
  split
  · exact takes_putGauge_self _ _ _
  · exact (GaugeStands.rfl s).takes

theorem gaugeStands_visitGauge_other {j k : Fin 48} (h : j ≠ k) (f : Gauge → Gauge) (s : State) :
    GaugeStands k s (visitGauge j f s) := by
  unfold visitGauge
  split
  · exact gaugeStands_putGauge_other h _ _
  · exact .rfl s

/-- The channel of a gauge in its pod. -/
def channelOf (k : Fin 48) : Fin 4 := ⟨k.val % 4, by omega⟩

/-- A pod's gauges are handed over: each enabled gauge of it is visited once, and no other. -/
theorem takes_handGauges (p : Fin 12) (f : Fin 4 → Gauge → Gauge) (s : State) (k : Fin 48) :
    Takes k (if podOf k = p ∧ s.gauges[k].enabled = true then f (channelOf k) s.gauges[k] else s.gauges[k]) s
      (handGauges p f s) := by
  rw [handGauges_eq]
  by_cases hp : podOf k = p
  · subst hp
    have hc (c : Fin 4) (hcd : c ≠ channelOf k) : gaugeOf (podOf k) c ≠ k := fun e =>
      hcd (gaugeOf_inj (e.trans (gaugeOf_podOf k).symm)).2
    obtain ⟨a, hsa, hab⟩ := forAll_around (f := fun c => visitGauge (gaugeOf (podOf k) c) (f c)) (R := GaugeStands k)
      GaugeStands.rfl (fun _ _ _ => GaugeStands.trans) (channelOf k)
      (fun c hcd t => gaugeStands_visitGauge_other (hc c hcd) (f c) t) s
    have hv := takes_visitGauge_self k (f (channelOf k)) a
    rw [show gaugeOf (podOf k) (channelOf k) = k from gaugeOf_podOf k] at hab
    rw [hsa.1] at hv
    simpa using (Takes.of_stands_left hsa hv).of_stands_right hab
  · have hc (c : Fin 4) : gaugeOf p c ≠ k := fun e => hp (gaugeOf_inj (e.trans (gaugeOf_podOf k).symm)).1.symm
    rw [if_neg (fun h => hp h.1)]
    exact GaugeStands.takes (forAll_relation GaugeStands.rfl (fun _ _ _ => GaugeStands.trans)
      (fun c t => gaugeStands_visitGauge_other (hc c) (f c) t) s)

/-! ## A handover that no limit hears -/

theorem limitsRest_visitGauge {k : Fin 48} {s : State} (h : NoStrainLimit s (podOf k)) (f : Gauge → Gauge) :
    LimitsRest s (visitGauge k f s) := by
  have hs (x : Gauge) : LimitsRest s (setGauge k x s) := by
    rw [setGauge_eq]
    exact ⟨rfl, rfl, rfl, rfl, rfl, rfl⟩
  unfold visitGauge
  split
  · rw [putGauge_eq]
    split
    · exact hs _
    · rw [evalWhere_unheard (isGaugeOf_unheard ((hs _).noStrainLimit h))]
      exact hs _
  · exact ⟨rfl, rfl, rfl, rfl, rfl, rfl⟩

theorem podOf_gaugeOf (p : Fin 12) (c : Fin 4) : podOf (gaugeOf p c) = p := by
  apply Fin.ext
  simp only [podOf, gaugeOf]
  omega

theorem limitsRest_handGauges {p : Fin 12} {s : State} (h : NoStrainLimit s p) (f : Fin 4 → Gauge → Gauge) :
    LimitsRest s (handGauges p f s) := by
  rw [handGauges_eq]
  refine forAll_invariant (P := LimitsRest s) (fun c t ht => ht.trans (limitsRest_visitGauge ?_ (f c)))
    ⟨rfl, rfl, rfl, rfl, rfl, rfl⟩
  rw [podOf_gaugeOf]
  exact ht.noStrainLimit h

/-! ## A pod handed over -/

/-- A pod's mark set where a condition holds. -/
theorem markIf_gpodMark (b : Bool) (p : Fin 12) (s : State) :
    markIf b (.gpod p) s = { s with marks := { s.marks with gpod := s.marks.gpod.set p (s.marks.gpod[p] || b) } } := by
  cases b
  · simp [markIf]
  · simp [markIf, mark, Marks.put]

theorem countMiss_eq (p : Fin 12) (why : MissReason) (s : State) :
    countMiss p why s =
      { s with
        gpods := s.gpods.set p (s.gpods[p].missed why)
        marks :=
          { s.marks with
            gpod := s.marks.gpod.set p (s.marks.gpod[p] || decide (s.gpods[p].consecutiveMisses = 0)) } } := by
  rw [countMiss, markIf_gpodMark]
  rfl

/-- The records of a pod handed over as missed for a reason, or as read, before its gauges hear of it: its GPOD record
and mark, and the round's counts (R69, R84). -/
def podCounted (miss : Option MissReason) (p : Fin 12) (s : State) : State :=
  { s with
    round :=
      if miss = none then { s.round with podsRead := s.round.podsRead + 1 }
      else { s.round with podsMissed := s.round.podsMissed + 1 }
    gpods := s.gpods.set p ((miss.map s.gpods[p].missed).getD s.gpods[p].read)
    marks :=
      { s.marks with
        gpod :=
          s.marks.gpod.set p (s.marks.gpod[p] || decide (miss ≠ none ∧ s.gpods[p].consecutiveMisses = 0)) } }

/-- The gauges of a pod whose run of misses stands below stale_limit do not age (R84). -/
theorem handMiss_gauges (p : Fin 12) (why : MissReason) (s : State) :
    GaugesTake (countMiss p why s) (handMiss p why s) := by
  rw [handMiss_eq]
  split
  · exact gaugesTake_handGauges _ _ _
  · exact GaugesTake.rfl _

theorem gaugesTake_roundMiss (p : Fin 12) (why : MissReason) (s : State) :
    GaugesTake (podCounted (some why) p s) (roundMiss p why s) := by
  have h := handMiss_gauges p why s
  unfold GaugesTake at h ⊢
  rw [roundMiss_eq, countRoundMiss, h, countMiss_eq]
  simp [podCounted, setRound]

theorem gaugesTake_podTaken (reply : PodReply) (p : Fin 12) (s : State) :
    GaugesTake (podCounted (readMiss reply) p s) (podTaken reply p s) := by
  cases h : readMiss reply with
  | some why =>
    rw [podTaken_missed h]
    exact gaugesTake_roundMiss p why s
  | none =>
    cases reply with
    | nack => cases h
    | bits sda =>
      have hg (f : Fin 4 → Gauge → Gauge) := gaugesTake_handGauges p f s
      unfold GaugesTake at hg ⊢
      rw [podTaken_good h, countRoundRead, handRead_eq]
      simp only
      rw [hg]
      simp [podCounted, setRound]

/-- What a gauge is after a miss of its pod (R84). -/
def agedBy (p : Fin 12) (s : State) (k : Fin 48) : Gauge :=
  if podOf k = p ∧ s.gauges[k].enabled = true ∧ s.hall.staleLimit ≤ satInc 255 s.gpods[p].consecutiveMisses ∧
      s.gauges[k].state ≠ .disabled then
    { s.gauges[k] with state := .stale }
  else s.gauges[k]

theorem aged_eq (g : Gauge) : g.aged = if g.state ≠ .disabled then { g with state := .stale } else g := by
  cases g with
  | mk enabled gf bridge zero pending count strain state => cases state <;> rfl

theorem agedBy_at_limit {p : Fin 12} {s : State} (h : s.hall.staleLimit ≤ satInc 255 s.gpods[p].consecutiveMisses)
    (k : Fin 48) :
    agedBy p s k = if podOf k = p ∧ s.gauges[k].enabled = true then s.gauges[k].aged else s.gauges[k] := by
  rw [aged_eq, agedBy]
  split_ifs <;> simp_all

theorem agedBy_below_limit {p : Fin 12} {s : State}
    (h : ¬s.hall.staleLimit ≤ satInc 255 s.gpods[p].consecutiveMisses) (k : Fin 48) :
    agedBy p s k = s.gauges[k] := if_neg fun ⟨_, _, hl, _⟩ => h hl

theorem takes_handMiss (p : Fin 12) (why : MissReason) (s : State) (k : Fin 48) :
    Takes k (agedBy p s k) s (handMiss p why s) := by
  have hc : GaugeStands k s (countMiss p why s) := by
    rw [countMiss_eq]
    exact .of_eq rfl rfl
  by_cases hl : s.hall.staleLimit ≤ satInc 255 s.gpods[p].consecutiveMisses
  · have hg := takes_handGauges p (fun _ => Gauge.aged) (countMiss p why s) k
    rw [hc.1, ← agedBy_at_limit hl] at hg
    rw [handMiss_eq, if_pos (show _ ≤ (s.gpods[p].missed why).consecutiveMisses from hl)]
    exact Takes.of_stands_left hc hg
  · rw [handMiss_eq, if_neg (show ¬_ ≤ (s.gpods[p].missed why).consecutiveMisses from hl), agedBy_below_limit hl]
    exact hc.takes

theorem takes_roundMiss (p : Fin 12) (why : MissReason) (s : State) (k : Fin 48) :
    Takes k (agedBy p s k) s (roundMiss p why s) := (takes_handMiss p why s k).of_stands_right (.of_eq rfl rfl)

theorem limitsRest_roundMiss {p : Fin 12} {s : State} (h : NoStrainLimit s p) (why : MissReason) :
    LimitsRest s (roundMiss p why s) := by
  have hc : LimitsRest s (countMiss p why s) := by
    rw [countMiss_eq]
    exact ⟨rfl, rfl, rfl, rfl, rfl, rfl⟩
  have hm : LimitsRest s (handMiss p why s) := by
    rw [handMiss_eq]
    split
    · exact hc.trans (limitsRest_handGauges (hc.noStrainLimit h) _)
    · exact hc
  exact hm

end Sys2Proof.Machine
end

section
/-! The gauge bus: what it carries in each round state, when a stretch ends, and the latch broadcast, WAIT and the stretch
timeout. -/

namespace Sys2Proof.Machine

/-! ## The levels of the bus (R60, R61, R65, R68) -/

theorem busBit_eq (s : State) : busBit s = if s.hall.busSpeed = .kbit100 then 400 else 100 := by
  unfold busBit
  cases s.hall.busSpeed <;> rfl

/-- Outside a transaction nothing is sent, and SDA is released. -/
theorem busLevels_released {s : State} (hl : s.plan.roundState ≠ .latch) (hr : s.plan.roundState ≠ .read) :
    busLevels s = [] := by
  have hb : busBytes s = [] := by
    unfold busBytes
    cases hs : s.plan.roundState <;> simp_all
  simp [busLevels, hb]

theorem busLevels_latch {s : State} (hi : s.inReset = false) (hl : s.plan.roundState = .latch) :
    busLevels s = msbBits 0x00 ++ true :: msbBits 0x5C ++ [true] := by
  have hb : busBytes s = latchBytes := by simp [busBytes, hi, hl]
  simp [busLevels, hb, hl, latchBytes]

/-- A read of the pod at the head of the list, whose bytes all but the last are acknowledged (R60, R68). -/
theorem busLevels_read {s : State} {p : Fin 12} {rest : List (Fin 12)} (hi : s.inReset = false)
    (hr : s.plan.roundState = .read) (hn : s.round.restarting = false) (ht : s.round.todo = p :: rest) :
    busLevels s =
      msbBits (readAddress p) ++
        true :: (List.range 14).flatMap fun i => List.replicate 8 true ++ [decide (i = 13)] := by
  have hb : busBytes s = [readAddress p] := by simp [busBytes, hi, hr, ht]
  have ha (i : Nat) : podAck i s = decide (i = 13) := by
    rw [podAck, hn, Bool.or_false]
    rfl
  simp [busLevels, hb, hr, ha]

theorem length_msbBits (b : Byte) : (msbBits b).length = 8 := by simp [msbBits]

theorem clockBits_transaction {s : State} (hi : s.inReset = false) (hc : s.plan.roundState ≠ .clear) :
    clockBits s = (busLevels s).length := by
  rw [clockBits, hi, if_neg (by simp)]
  cases hs : s.plan.roundState <;> simp_all

theorem clockBits_clear {s : State} (hi : s.inReset = false) (hc : s.plan.roundState = .clear) : clockBits s = 9 := by
  simp [clockBits, hi, hc]

/-- SCL is released in the high half of every bit, and in the low half after the last. -/
theorem sclReleased_eq {s : State} {bits : Nat} (h : clockBits s = bits) (n : Nat) :
    sclReleased n .high s = true ∧ sclReleased n .low s = decide (bits ≤ n) := by
  rw [← h]
  exact ⟨rfl, by simp [sclReleased, BEq.beq]⟩

/-! ## The end of a stretch (R61) -/

/-- One WRITE of the search for the limit that stood at a release. -/
def replacedLimit (released limit : Nat) (w : Nat × Nat) : Nat := if released < w.1 then w.2 else limit

theorem stretchLimitAt_eq (released : Nat) (s : State) :
    stretchLimitAt released s = s.round.limitWrites.foldl (replacedLimit released) s.hall.stretchLimitUs := rfl

/-- WRITEs up to the release do not count. -/
theorem foldl_replacedLimit_before {released : Nat} {ws : List (Nat × Nat)} (h : ∀ w ∈ ws, w.1 ≤ released)
    (limit : Nat) :
    ws.foldl (replacedLimit released) limit = limit := by
  induction ws generalizing limit with
  | nil => rfl
  | cons w ws ih =>
    have hw : ¬released < w.1 := Nat.not_lt.mpr (h w List.mem_cons_self)
    rw [List.foldl_cons, replacedLimit, if_neg hw]
    exact ih (fun x hx => h x (List.mem_cons_of_mem _ hx)) limit

theorem stretchLimitAt_present {released : Nat} {s : State} (h : ∀ w ∈ s.round.limitWrites, w.1 ≤ released) :
    stretchLimitAt released s = s.hall.stretchLimitUs := by
  rw [stretchLimitAt_eq, foldl_replacedLimit_before h]

/-- The first WRITE after a release gives the limit that it replaced. -/
theorem stretchLimitAt_replaced {released : Nat} {s : State} {later earlier : List (Nat × Nat)} {w : Nat × Nat}
    (hw : s.round.limitWrites = later ++ w :: earlier) (hl : released < w.1) (he : ∀ x ∈ earlier, x.1 ≤ released) :
    stretchLimitAt released s = w.2 := by
  rw [stretchLimitAt_eq, hw, List.foldl_append, List.foldl_cons, foldl_replacedLimit_before he,
    replacedLimit, if_pos hl]

/-- A limit that stood at some release is the present one or one that a WRITE replaced. -/
theorem foldl_replacedLimit_mem (released : Nat) (ws : List (Nat × Nat)) (limit : Nat) :
    ws.foldl (replacedLimit released) limit ∈ limit :: ws.map fun w => w.2 := by
  induction ws generalizing limit with
  | nil => simp
  | cons w ws ih =>
    rw [List.foldl_cons]
    have h := ih (replacedLimit released limit w)
    rw [List.mem_cons] at h
    rcases h with h | h
    · rw [h, replacedLimit]
      split <;> simp
    · simp only [List.map_cons, List.mem_cons]
      exact .inr (.inr h)

/-- Two releases between which no WRITE came have one limit. -/
theorem stretchLimitAt_congr {a b : Nat} {s : State} (h : ∀ w ∈ s.round.limitWrites, a < w.1 ↔ b < w.1) :
    stretchLimitAt a s = stretchLimitAt b s := by
  rw [stretchLimitAt_eq, stretchLimitAt_eq]
  refine List.foldl_ext _ _ _ fun limit w hw => ?_
  simp only [replacedLimit, h w hw]

/-- The latest of the START and the WRITEs that came up to a release. -/
theorem exists_latest_start (start r : Nat) (ws : List (Nat × Nat)) (h : start ≤ r) :
    ∃ a ∈ start :: ws.map fun w => w.1, start ≤ a ∧ a ≤ r ∧ ∀ w ∈ ws, w.1 ≤ r → w.1 ≤ a := by
  induction ws with
  | nil => exact ⟨start, by simp, le_rfl, h, by simp⟩
  | cons w ws ih =>
    obtain ⟨a, ha, hs, hr, hw⟩ := ih
    by_cases hn : a < w.1 ∧ w.1 ≤ r
    · refine ⟨w.1, by simp, by omega, hn.2, fun x hx hxr => ?_⟩
      rcases List.mem_cons.mp hx with rfl | hx
      · exact le_rfl
      · exact (hw x hx hxr).trans hn.1.le
    · refine ⟨a, ?_, hs, hr, fun x hx hxr => ?_⟩
      · rcases List.mem_cons.mp ha with rfl | ha
        · simp
        · simp [ha]
      · rcases List.mem_cons.mp hx with rfl | hx
        · omega
        · exact hw x hx hxr

/-- The end of the stretch of one release. -/
def stretchOf (s : State) (r : Nat) : Nat := r + us (stretchLimitAt r s)

/-- Every release whose stretch ends now or later is no earlier than one of those that are considered, under the same
limit. -/
theorem exists_considered {s : State} {r : Nat} (hs : s.round.busStart ≤ r) (hc : s.clk ≤ stretchOf s r) :
    ∃ c ∈ stretchReleases s, stretchOf s c ≤ stretchOf s r := by
  obtain ⟨a, ha, hsa, har, hw⟩ := exists_latest_start s.round.busStart r s.round.limitWrites hs
  have hc : s.clk ≤ r + us (stretchLimitAt r s) := hc
  have hsame (c : Nat) (hac : a ≤ c) (hcr : c ≤ r) : stretchLimitAt c s = stretchLimitAt r s :=
    stretchLimitAt_congr fun w hm => ⟨fun h => by
      by_contra hn
      have := hw w hm (Nat.not_lt.mp hn)
      omega, fun h => by omega⟩
  have hlimit := hsame (max a (s.clk - us (stretchLimitAt r s))) (by omega) (by omega)
  refine ⟨max a (s.clk - us (stretchLimitAt r s)), ?_, ?_⟩
  · refine List.mem_filter.mpr ⟨List.mem_flatMap.mpr ⟨a, ha, List.mem_map.mpr ⟨stretchLimitAt r s, ?_, rfl⟩⟩, ?_⟩
    · exact foldl_replacedLimit_mem r s.round.limitWrites s.hall.stretchLimitUs
    · rw [hlimit]
      simp only [Bool.and_eq_true, decide_eq_true_eq]
      omega
  · unfold stretchOf
    rw [hlimit]
    omega

/-- Some release is considered: one after every WRITE and late enough for the present limit. -/
theorem stretchReleases_ne_nil (s : State) : stretchReleases s ≠ [] := by
  obtain ⟨c, hc, -⟩ := exists_considered (s := s) (r := max s.round.busStart s.clk) (by omega)
    (show s.clk ≤ _ + _ by omega)
  exact List.ne_nil_of_mem hc

/-- The end of the stretch is the least end among the releases considered. -/
theorem stretchEnd_least (s : State) :
    (∃ r ∈ stretchReleases s, stretchOf s r = stretchEnd s) ∧
      ∀ r ∈ stretchReleases s, stretchEnd s ≤ stretchOf s r := by
  have he : stretchEnd s =
      match (stretchReleases s).map (stretchOf s) with
      | [] => s.clk
      | t :: ts => ts.foldl min t := rfl
  have hmin : ((stretchReleases s).map (stretchOf s)).min? = some (stretchEnd s) := by
    rw [he]
    cases hr : stretchReleases s with
    | nil => exact absurd hr (stretchReleases_ne_nil s)
    | cons c cs => rfl
  simpa using List.min?_eq_some_iff.mp hmin

/-- The end of a stretch is that of some release since the START, now or later. -/
theorem stretchEnd_released (s : State) :
    ∃ r, s.round.busStart ≤ r ∧ s.clk ≤ stretchOf s r ∧ stretchEnd s = stretchOf s r := by
  obtain ⟨⟨r, hm, he⟩, -⟩ := stretchEnd_least s
  obtain ⟨hs, hc⟩ := mem_stretchReleases hm
  exact ⟨r, hs, hc, he.symm⟩

theorem stretchEnd_le {s : State} {r : Nat} (hs : s.round.busStart ≤ r) (hc : s.clk ≤ stretchOf s r) :
    stretchEnd s ≤ stretchOf s r := by
  obtain ⟨c, hm, hle⟩ := exists_considered hs hc
  exact ((stretchEnd_least s).2 c hm).trans hle

theorem stretchEnd_unwritten {s : State} (h : s.round.limitWrites = []) :
    stretchEnd s = max s.clk (s.round.busStart + us s.hall.stretchLimitUs) := by
  have hl (r : Nat) : stretchOf s r = r + us s.hall.stretchLimitUs := by
    rw [stretchOf, stretchLimitAt_present (by simp [h])]
  obtain ⟨r, hs, hc, he⟩ := stretchEnd_released s
  have hle := stretchEnd_le (s := s) (r := max s.round.busStart (s.clk - us s.hall.stretchLimitUs)) (by omega)
    (by rw [hl]; omega)
  rw [hl] at hc he hle
  omega

end Sys2Proof.Machine
end

section
/-! The statement about the latch broadcast, WAIT, the first read and the stretch timeout. -/

namespace Sys2Proof.Machine

/-! ## The latch broadcast and WAIT (R65 to R67) -/

/-- The bus after the latch broadcast: the clock at its end, its STOP sent and its acknowledges noted (R65). -/
def latchEnds (addrAck dataAck : Bool) (s : State) : State :=
  { s with
    clk := max s.clk (s.round.busStart + latchBits addrAck * busBit s)
    round :=
      { s.round with
        latchAnswered := addrAck && dataAck
        busFree := max s.clk (s.round.busStart + latchBits addrAck * busBit s) + busBit s } }

theorem latchBroadcastDone_eq {s : State} (hl : s.plan.roundState = .latch) (hn : s.round.restarting = false)
    (addrAck dataAck : Bool) :
    latchBroadcastDone addrAck dataAck s =
      if s.round.pods.isEmpty then completeRound false (latchEnds addrAck dataAck s)
      else enterWait (latchEnds addrAck dataAck s) := if_pos ⟨hl, hn⟩

theorem latchWaitExpiry_eq {s : State} (h : s.plan.roundState = .wait) :
    latchWaitExpiry s =
      { s with
        clk := max s.clk s.round.waitEnds
        plan := { s.plan with roundState := .read }
        round := { s.round with busStart := max s.clk s.round.waitEnds, limitWrites := [] } } := if_pos h

/-! ## The stretch timeout (R61, R66, R70, R77) -/

theorem stretchTimeout_elsewhere {s : State} (hl : s.plan.roundState ≠ .latch) (hr : s.plan.roundState ≠ .read) :
    stretchTimeout s = s := by
  unfold stretchTimeout
  cases hs : s.plan.roundState <;> simp_all

theorem stretchTimeout_latch {s : State} (h : s.plan.roundState = .latch) :
    stretchTimeout s =
      clearStart .latch (setRound { s.round with latchAnswered := false } (passTo (stretchEnd s) s)) := by
  unfold stretchTimeout
  rw [h]
  rfl

theorem stretchTimeout_restarting {s : State} (h : s.plan.roundState = .read) (hn : s.round.restarting = true) :
    stretchTimeout s = clearStart .pod (passTo (stretchEnd s) s) := by
  unfold stretchTimeout
  rw [h, hn]

theorem stretchTimeout_read {s : State} {p : Fin 12} {rest : List (Fin 12)} (h : s.plan.roundState = .read)
    (hn : s.round.restarting = false) (ht : s.round.todo = p :: rest) :
    stretchTimeout s = clearStart .pod (roundMiss p .stretch (passTo (stretchEnd s) s)) := by
  unfold stretchTimeout
  rw [h, hn, ht]

theorem podCounted_missed (why : MissReason) (p : Fin 12) (s : State) :
    podCounted (some why) p s =
      { s with
        round := { s.round with podsMissed := s.round.podsMissed + 1 }
        gpods := s.gpods.set p (s.gpods[p].missed why)
        marks :=
          { s.marks with
            gpod := s.marks.gpod.set p (s.marks.gpod[p] || decide (s.gpods[p].consecutiveMisses = 0)) } } := by
  simp [podCounted]

/-- A bus clear that begins leaves gauges, limits and marks. -/
theorem gaugeStands_clearStart (why : ClearReason) (s : State) (k : Fin 48) : GaugeStands k s (clearStart why s) :=
  ⟨rfl, rfl⟩

/-- A pod that times out is missed with reason STRETCH, and the bus clear begins. -/
theorem stretchTimeout_missed_frame (p : Fin 12) (s : State) :
    let t := clearStart .pod (roundMiss p .stretch (passTo (stretchEnd s) s))
    t = { s with
          clk := max s.clk (stretchEnd s), plan := { s.plan with roundState := .clear },
          round :=
            { s.round with
              podsMissed := s.round.podsMissed + 1, clearFor := .pod, busStart := max s.clk (stretchEnd s),
              limitWrites := [] },
          gpods := s.gpods.set p (s.gpods[p].missed .stretch),
          gauges := t.gauges, rams := t.rams, groups := t.groups, limits := t.limits,
          marks :=
            { s.marks with
              gauge := t.marks.gauge,
              gpod := s.marks.gpod.set p (s.marks.gpod[p] || decide (s.gpods[p].consecutiveMisses = 0)),
              ram := t.marks.ram, group := t.marks.group, limit := t.marks.limit } } := by
  have h := gaugesTake_roundMiss p .stretch (passTo (stretchEnd s) s)
  unfold GaugesTake at h
  simp only [clearStart_eq]
  generalize roundMiss p .stretch _ = v at h
  rw [podCounted_missed] at h
  rw [h]
  rfl

/-- Settles O21: the bus by what is sent in each round state, a stretch by the least end among the releases, and a timeout
by the handover of a missed pod. -/
theorem latchesWaitAndStretchesClear : Obligations.LatchesWaitAndStretchesClear := by
  refine ⟨fun addrAck dataAck s hi => ⟨?_, ?_, ?_, ?_, ?_, ?_, ?_⟩,
    ⟨fun released s => ⟨stretchLimitAt_present, fun later earlier w => stretchLimitAt_replaced⟩, fun s => ?_⟩,
    fun s hi => ⟨?_, ?_, ?_, ?_⟩⟩
  · intro hs n half
    have hb : busLevels s = [] := by
      rcases hs with hs | hs | hs <;> exact busLevels_released (by simp [hs]) (by simp [hs])
    have hc : clockBits s = 0 := by
      rw [clockBits_transaction hi (by rcases hs with hs | hs | hs <;> simp [hs]), hb]
      rfl
    exact ⟨by simp [sclReleased, hc], by simp [sdaReleased, hb]⟩
  · intro hl n
    refine sclReleased_eq ?_ n
    rw [clockBits_transaction hi (by simp [hl]), busLevels_latch hi hl]
    rfl
  · exact fun hl => busLevels_latch hi hl
  · intro hl hn hp
    refine (event_out hi).trans (congrArg _ ?_)
    rw [latchBroadcastDone_eq hl hn, if_neg (by simpa using hp), latchEnds, busBit_eq]
    rfl
  · intro hl hn hp
    refine (event_out hi).trans (congrArg _ ?_)
    rw [latchBroadcastDone_eq hl hn, if_pos (by simpa using hp), latchEnds, busBit_eq]
    rfl
  · exact fun hw => (event_out hi).trans (congrArg _ (latchWaitExpiry_eq hw))
  · exact fun hw => (event_out hi).trans (congrArg _ (if_neg hw))
  · obtain ⟨r, hs, hc, he⟩ := stretchEnd_released s
    exact ⟨he ▸ hc, ⟨r, hs, he⟩, fun r hs hc => stretchEnd_le hs hc, stretchEnd_unwritten⟩
  · exact fun hl hr => (event_out hi).trans (congrArg _ (stretchTimeout_elsewhere hl hr))
  · exact fun hl => (event_out hi).trans (congrArg _ (stretchTimeout_latch hl))
  · exact fun hr hn => (event_out hi).trans (congrArg _ (stretchTimeout_restarting hr hn))
  · intro p rest hr hn ht
    have hg (k : Fin 48) := (takes_roundMiss p .stretch (passTo (stretchEnd s) s) k).of_stands_right
      (gaugeStands_clearStart .pod _ k)
    refine ⟨_, (event_out hi).trans (congrArg _ (stretchTimeout_read hr hn ht)), stretchTimeout_missed_frame p s, ?_,
      fun k => (hg k).mark, fun k => (hg k).1⟩
    exact fun hp => limitsRest_roundMiss (s := passTo (stretchEnd s) s) hp .stretch

end Sys2Proof.Machine
end

section
/-! The statement about a pod read: the bytes of a reply, the handover of its pod, and how the round goes on. -/

namespace Sys2Proof.Machine

/-! ## The bytes of a reply (R68, R69, R187) -/

/-- The bits of a byte read from eight levels are those levels, the most significant bit first (R187). -/
theorem getMsbD_msbByte {bits : List Bool} (h : bits.length = 8) (j : Fin 8) :
    (msbByte bits).getMsbD j.val = bits[j.val] := by
  match bits, h with
  | [a, b, c, d, e, f, g, i], _ =>
    revert a b c d e f g i j
    decide +kernel

theorem getMsbD_podBytes (sda : Vector Bool 112) (i : Fin 14) (j : Fin 8) :
    ((podBytes sda)[i]).getMsbD j.val = sda[8 * i.val + j.val] := by
  have hl : ((sda.toList.drop (8 * i.val)).take 8).length = 8 := by
    simp
    omega
  have hb : (podBytes sda)[i] = msbByte ((sda.toList.drop (8 * i.val)).take 8) := by simp [podBytes]
  rw [hb, getMsbD_msbByte hl]
  simp

/-- The most significant bit of a byte stands where its number is at least 128. -/
theorem le_toNat_iff_getLsbD (b : Byte) : 128 ≤ b.toNat ↔ b.getLsbD 7 = true := by
  revert b
  decide +kernel

/-- The judgement of a reply, its missed latch read from bit 7 of the status byte (R69). -/
theorem replyMiss_eq (b : Vector Byte 14) :
    replyMiss b =
      if crc8 (b.toList.take 13) ≠ b[13] then some .badCheck
      else if (b[0]).getLsbD 7 = true then some .latchMissed
      else none := by
  unfold replyMiss replyByte
  simp only [le_toNat_iff_getLsbD]
  rfl

/-- No pod read is judged a stretch timeout. -/
theorem readMiss_ne_stretch {reply : PodReply} {why : MissReason} (h : readMiss reply = some why) : why ≠ .stretch := by
  rintro rfl
  cases reply with
  | nack => cases h
  | bits sda =>
    rw [readMiss, replyMiss_eq] at h
    split_ifs at h <;> cases h

/-- Three bytes as one number in two's complement. -/
theorem signedBytes_append (x y z : Byte) :
    signedBytes 3 (replyCount.beNat3 x.toNat y.toNat z.toNat) = (x ++ y ++ z : BitVec 24).toInt := by
  have hx := x.isLt
  have hy := y.isLt
  have hz := z.isLt
  have hn : (x ++ y ++ z : BitVec 24).toNat = (x.toNat * 256 + y.toNat) * 256 + z.toNat := by
    rw [BitVec.toNat_append, BitVec.toNat_append, ← Nat.shiftLeft_add_eq_or_of_lt hz,
      ← Nat.shiftLeft_add_eq_or_of_lt hy, Nat.shiftLeft_eq, Nat.shiftLeft_eq]
  rw [BitVec.toInt_eq_toNat_cond, hn, signedBytes, replyCount.beNat3]
  norm_num

theorem replyCount_eq (b : Vector Byte 14) (i : Fin 4) :
    replyCount b i = (b[1 + 3 * i.val] ++ b[2 + 3 * i.val] ++ b[3 + 3 * i.val] : BitVec 24).toInt :=
  signedBytes_append _ _ _

/-! ## The pod that is read (R69, R81, R84) -/

theorem gaugeStands_countRoundRead (s : State) (k : Fin 48) : GaugeStands k s (countRoundRead s) := .of_eq rfl rfl

theorem limitsRest_countRoundRead (s : State) : LimitsRest s (countRoundRead s) := ⟨rfl, rfl, rfl, rfl, rfl, rfl⟩

theorem takes_podTaken_missed {reply : PodReply} {why : MissReason} (h : readMiss reply = some why) (p : Fin 12)
    (s : State) (k : Fin 48) : Takes k (agedBy p s k) s (podTaken reply p s) := by
  rw [podTaken_missed h]
  exact takes_roundMiss p why s k

theorem takes_handRead (p : Fin 12) (flagged : Fin 4 → Bool) (count : Fin 4 → Int) (s : State) (k : Fin 48) :
    Takes k
      (if podOf k = p ∧ s.gauges[k].enabled = true then
        s.gauges[k].reading (count (channelOf k)) (flagged (channelOf k))
      else s.gauges[k]) s (handRead p flagged count s) := by
  have h := takes_handGauges p (fun c g => g.reading (count c) (flagged c)) s k
  rw [handRead_eq]
  generalize handGauges p _ s = t at h
  exact h.of_stands_right (.of_eq rfl rfl)

theorem limitsRest_handRead {p : Fin 12} {s : State} (h : NoStrainLimit s p) (flagged : Fin 4 → Bool)
    (count : Fin 4 → Int) : LimitsRest s (handRead p flagged count s) := by
  have h := limitsRest_handGauges h fun c g => g.reading (count c) (flagged c)
  rw [handRead_eq]
  generalize handGauges p _ s = t at h
  exact h

/-- What a gauge is after a good read of pod p: its channel's count and overrange bit, where it is one of the pod's. -/
theorem takes_podTaken_good {sda : Vector Bool 112} (h : readMiss (.bits sda) = none) (p : Fin 12) (s : State)
    (k : Fin 48) :
    Takes k
      (if podOf k = p ∧ s.gauges[k].enabled = true then
        s.gauges[k].reading (replyCount (podBytes sda) (channelOf k))
          ((replyByte (podBytes sda) 0).testBit (channelOf k).val)
      else s.gauges[k]) s (podTaken (.bits sda) p s) := by
  have hr := takes_handRead p (fun c => (replyByte (podBytes sda) 0).testBit c.val) (replyCount (podBytes sda)) s k
  rw [podTaken_good h]
  exact hr.of_stands_right (gaugeStands_countRoundRead _ k)

theorem mark_podTaken (reply : PodReply) (p : Fin 12) (s : State) (k : Fin 48) :
    (podTaken reply p s).marks.gauge[k] =
      (s.marks.gauge[k] || decide ((podTaken reply p s).gauges[k].state ≠ s.gauges[k].state)) := by
  cases h : readMiss reply with
  | some why => exact (takes_podTaken_missed h p s k).mark
  | none =>
    cases reply with
    | nack => cases h
    | bits sda => exact (takes_podTaken_good h p s k).mark

theorem limitsRest_podTaken {p : Fin 12} {s : State} (h : NoStrainLimit s p) (reply : PodReply) :
    LimitsRest s (podTaken reply p s) := by
  cases hm : readMiss reply with
  | some why =>
    rw [podTaken_missed hm]
    exact limitsRest_roundMiss h why
  | none =>
    cases reply with
    | nack => cases hm
    | bits sda =>
      rw [podTaken_good hm]
      exact (limitsRest_handRead h _ _).trans (limitsRest_countRoundRead _)

/-! ## The round goes on (R70, R71) -/

/-- Only the round plan and the protection path, and no other mark than its own, differ. -/
def GoesOn (s t : State) : Prop :=
  t = { s with
        plan := t.plan, round := t.round, rams := t.rams, groups := t.groups, limits := t.limits,
        marks := { s.marks with ram := t.marks.ram, group := t.marks.group, limit := t.marks.limit } }

theorem nextPod_more {s : State} (h : s.round.todo.tail ≠ []) :
    nextPod s =
      { s with
        plan := { s.plan with roundState := .read }
        round :=
          { s.round with
            todo := s.round.todo.tail, busStart := max s.clk s.round.busFree, limitWrites := [] } } := by
  rw [nextPod_eq, if_neg (by simpa using h)]
  rfl

theorem completes_nextPod {s : State} (h : s.round.todo.tail = []) : Completes false (dropPod s) (nextPod s) := by
  rw [nextPod_eq, if_pos (by simpa using h)]
  exact completes_completeRound false (dropPod s)

theorem goesOn_nextPod (s : State) : GoesOn s (nextPod s) := by
  by_cases h : s.round.todo.tail = []
  · have hc := completes_nextPod h
    unfold Completes at hc
    unfold GoesOn
    rw [hc, Bool.or_false]
    rfl
  · rw [nextPod_more h]
    exact Eq.refl _

theorem GoesOn.gaugeStands {s t : State} (h : GoesOn s t) (k : Fin 48) : GaugeStands k s t := by
  unfold GoesOn at h
  exact .of_eq (by rw [h]) (by rw [h])

theorem limitsRest_nextPod {s : State} (h : s.round.todo.tail = [] → ∀ q ∈ s.round.pods, NoStrainLimit s q) :
    LimitsRest s (nextPod s) := by
  by_cases ht : s.round.todo.tail = []
  · rw [nextPod_eq, if_pos (by simpa using ht)]
    exact completeRound_limitsRest false (s := dropPod s) (h ht)
  · rw [nextPod_more ht]
    exact ⟨rfl, rfl, rfl, rfl, rfl, rfl⟩

end Sys2Proof.Machine
end

section
/-! The statement about a pod read. -/

namespace Sys2Proof.Machine

/-- A read from its last bit on: the pod is handed over, and the round goes on. -/
def afterRead (reply : PodReply) (p : Fin 12) (s : State) : State := nextPod (podTaken reply p (readEnds reply s))

theorem readEnds_eq (reply : PodReply) (s : State) :
    readEnds reply s =
      { s with
        clk := max s.clk (s.round.busStart + readBits reply * busBit s)
        round :=
          { s.round with busFree := max s.clk (s.round.busStart + readBits reply * busBit s) + busBit s } } := rfl

/-- The pod as its read counts it, the bus free one bit time after the STOP (R60, R84). -/
theorem gaugesTake_read (reply : PodReply) (p : Fin 12) (s : State) :
    GaugesTake (podCounted (readMiss reply) p (readEnds reply s)) (podTaken reply p (readEnds reply s)) :=
  gaugesTake_podTaken reply p (readEnds reply s)

/-- The frame of a pod read. -/
theorem afterRead_frame (reply : PodReply) (p : Fin 12) (s : State) :
    let t := afterRead reply p s
    t = { s with
          clk := max s.clk (s.round.busStart + readBits reply * busBit s),
          gpods := s.gpods.set p (((readMiss reply).map s.gpods[p].missed).getD s.gpods[p].read),
          gauges := t.gauges, plan := t.plan, round := t.round, rams := t.rams, groups := t.groups, limits := t.limits,
          marks :=
            { s.marks with
              gauge := t.marks.gauge,
              gpod :=
                s.marks.gpod.set p
                  (s.marks.gpod[p] || decide (readMiss reply ≠ none ∧ s.gpods[p].consecutiveMisses = 0)),
              ram := t.marks.ram, group := t.marks.group, limit := t.marks.limit } } := by
  have hv := gaugesTake_read reply p s
  have ht := goesOn_nextPod (podTaken reply p (readEnds reply s))
  unfold GaugesTake at hv
  unfold GoesOn at ht
  simp only [afterRead]
  generalize podTaken reply p (readEnds reply s) = v at hv ht
  generalize nextPod v = t at ht
  rw [ht, hv]
  rfl

/-- The round's counts after a pod read, its other fields as the end of the read leaves them. -/
theorem round_read (reply : PodReply) (p : Fin 12) (s : State) :
    (podTaken reply p (readEnds reply s)).round =
      if readMiss reply = none then { (readEnds reply s).round with podsRead := s.round.podsRead + 1 }
      else { (readEnds reply s).round with podsMissed := s.round.podsMissed + 1 } :=
  round_podTaken reply p (readEnds reply s)

/-- The clock after a pod read is that at its end. -/
theorem clk_read (reply : PodReply) (p : Fin 12) (s : State) :
    (podTaken reply p (readEnds reply s)).clk = max s.clk (s.round.busStart + readBits reply * busBit s) := by
  have h := gaugesTake_read reply p s
  unfold GaugesTake at h
  rw [h]
  rfl

/-- What the bits of a read leave of each gauge until its pod is handed over. -/
theorem takes_afterRead {reply : PodReply} {p : Fin 12} {k : Fin 48} {g : Gauge} {s : State}
    (h : Takes k g (readEnds reply s) (podTaken reply p (readEnds reply s))) : Takes k g s (afterRead reply p s) :=
  Takes.of_stands_left (.of_eq rfl rfl) (h.of_stands_right ((goesOn_nextPod _).gaugeStands k))

theorem mark_afterRead (reply : PodReply) (p : Fin 12) (s : State) (k : Fin 48) :
    (afterRead reply p s).marks.gauge[k] =
      (s.marks.gauge[k] || decide ((afterRead reply p s).gauges[k].state ≠ s.gauges[k].state)) :=
  (takes_afterRead ⟨Eq.refl _, mark_podTaken reply p (readEnds reply s) k⟩).mark

/-- The pods of the round, and those still to come, are as before the read. -/
theorem pods_read (reply : PodReply) (p : Fin 12) (s : State) :
    (podTaken reply p (readEnds reply s)).round.pods = s.round.pods ∧
      (podTaken reply p (readEnds reply s)).round.todo = s.round.todo := by
  rw [round_read]
  split <;> exact ⟨rfl, rfl⟩

theorem limitsRest_afterRead {p : Fin 12} {s : State} (reply : PodReply) (hp : NoStrainLimit s p)
    (hq : s.round.todo.tail = [] → ∀ q ∈ s.round.pods, NoStrainLimit s q) : LimitsRest s (afterRead reply p s) := by
  obtain ⟨hpods, htodo⟩ := pods_read reply p s
  have hv := limitsRest_podTaken (s := readEnds reply s) hp reply
  refine LimitsRest.trans (b := podTaken reply p (readEnds reply s)) hv (limitsRest_nextPod ?_)
  rw [hpods, htodo]
  exact fun h q hm => hv.noStrainLimit (s := readEnds reply s) (hq h q hm)

/-- The round after a read that leaves another pod: its START comes one bit time after the STOP (R70). -/
theorem afterRead_more {reply : PodReply} {p : Fin 12} {s : State} (hr : s.plan.roundState = .read)
    (h : s.round.todo.tail ≠ []) :
    let t := afterRead reply p s
    t.plan = s.plan ∧
      t.round =
        { s.round with
          podsRead := t.round.podsRead, podsMissed := t.round.podsMissed, todo := s.round.todo.tail,
          busStart := t.clk + busBit s, busFree := t.clk + busBit s, limitWrites := [] } := by
  obtain ⟨-, htodo⟩ := pods_read reply p s
  have hround := round_read reply p s
  have hplan := plan_podTaken reply p (readEnds reply s)
  have hclk := clk_read reply p s
  simp only [afterRead]
  rw [nextPod_more (by rwa [htodo])]
  refine ⟨?_, ?_⟩
  · rw [hplan]
    simp [readEnds_eq, ← hr]
  · simp only [hround, hclk]
    split <;> simp [readEnds_eq]

/-- The round after a read of its last pod: completed, not aborted (R71). -/
theorem afterRead_last {reply : PodReply} {p : Fin 12} {s : State} (h : s.round.todo.tail = []) :
    let t := afterRead reply p s
    t.plan.roundState = .idle ∧ t.plan.aborted = false ∧ t.plan.podsRead = t.round.podsRead ∧
      t.plan.podsMissed = t.round.podsMissed ∧
      t.round =
        { s.round with
          podsRead := t.round.podsRead, podsMissed := t.round.podsMissed, todo := [],
          busFree := t.clk + busBit s, restFlag := s.round.restFlag || decide (s.plan.mode = .cyclic) } := by
  obtain ⟨-, htodo⟩ := pods_read reply p s
  have hround := round_read reply p s
  have hplan := plan_podTaken reply p (readEnds reply s)
  have hclk := congrArg State.clk (afterRead_frame reply p s)
  have hc := completes_nextPod (s := podTaken reply p (readEnds reply s)) (by rwa [htodo])
  simp only [afterRead] at hclk ⊢
  rw [hc.plan, hc.round, hclk]
  refine ⟨rfl, rfl, rfl, rfl, ?_⟩
  simp only [dropPod, setRound_round, setRound_plan, hround, hplan]
  rw [readEnds_eq]
  split <;> simp only [h]

/-- The round's counts after a pod read. -/
theorem afterRead_counts (reply : PodReply) (p : Fin 12) (s : State) :
    (afterRead reply p s).round.podsRead =
        (if readMiss reply = none then s.round.podsRead + 1 else s.round.podsRead) ∧
      (afterRead reply p s).round.podsMissed =
        (if readMiss reply = none then s.round.podsMissed else s.round.podsMissed + 1) := by
  have hr := round_read reply p s
  unfold afterRead
  by_cases h : (podTaken reply p (readEnds reply s)).round.todo.tail = []
  · rw [(completes_nextPod h).round, dropPod, setRound_round, hr]
    split <;> exact ⟨rfl, rfl⟩
  · rw [nextPod_more h, hr]
    split <;> exact ⟨rfl, rfl⟩

/-- The GPOD record of a pod that is missed otherwise than by a stretch timeout. -/
theorem missed_of_ne_stretch {why : MissReason} (h : why ≠ .stretch) (x : GPod) :
    x.missed why =
      { x with
        consecutiveMisses := satInc 255 x.consecutiveMisses
        misses := satInc max32 x.misses
        badChecks := if why = .badCheck then satInc max32 x.badChecks else x.badChecks
        lastMiss := why } := by
  cases why <;> simp_all [GPod.missed]

theorem channelOf_gaugeOf (p : Fin 12) (i : Fin 4) : channelOf (gaugeOf p i) = i := by
  apply Fin.ext
  simp only [channelOf, gaugeOf]
  omega

/-- What the judgement of O23 says of a reply. -/
theorem readMiss_eq (reply : PodReply) :
    readMiss reply =
      match reply with
      | .nack => some .noAck
      | .bits sda =>
        if crc8 ((podBytes sda).toList.take 13) ≠ (podBytes sda)[13] then some .badCheck
        else if ((podBytes sda)[0]).getLsbD 7 = true then some .latchMissed
        else none := by
  cases reply with
  | nack => rfl
  | bits sda => exact replyMiss_eq _

theorem readBits_eq (reply : PodReply) : readBits reply = if reply = .nack then 11 else 137 := by
  cases reply <;> rfl

/-- Settles O23: the pod handed over as its reply is judged, and the round gone on from there. -/
theorem podReadIsJudgedAndHandedOver : Obligations.PodReadIsJudgedAndHandedOver := by
  intro reply s p rest hi hr hn ht miss x bit
  have hmiss : miss = readMiss reply := (readMiss_eq reply).symm
  have hbit : bit = busBit s := (busBit_eq s).symm
  have htail : s.round.todo.tail = rest := by rw [ht]; rfl
  have hframe := afterRead_frame reply p s
  have hgpods := congrArg State.gpods hframe
  have hclk := congrArg State.clk hframe
  obtain ⟨hread, hmissed⟩ := afterRead_counts reply p s
  clear_value miss
  subst hmiss
  rw [hbit]
  refine ⟨sclReleased_eq ?_, ?_, afterRead reply p s,
    (event_out hi).trans (congrArg _ (podReadDone_eq hr hn ht reply)), ?_, mark_afterRead reply p s, ?_, ?_, ?_, ?_,
    ?_, ?_, ?_, ?_⟩
  · rw [clockBits_transaction hi (by simp [hr]), busLevels_read hi hr hn ht]
    simp [length_msbBits]
  · rw [busLevels_read hi hr hn ht, readAddress, Nat.mul_comm]
    rfl
  · rw [hclk, hgpods]
    exact hframe
  · exact fun hp hq => limitsRest_afterRead reply hp (by rwa [htail])
  · rw [hclk, readBits_eq]
  · intro q hq
    rw [hgpods, getElem_set_fin, if_neg (Ne.symm hq)]
  · intro h
    simp only [h, if_true] at hread hmissed
    refine ⟨?_, hread, hmissed⟩
    rw [hgpods, getElem_set_fin, if_pos rfl, h]
    rfl
  · intro why h
    simp only [h, reduceCtorEq, if_false] at hread hmissed
    refine ⟨?_, hread, hmissed, fun k => (takes_afterRead (takes_podTaken_missed h p (readEnds reply s) k)).1⟩
    rw [hgpods, getElem_set_fin, if_pos rfl, h]
    exact missed_of_ne_stretch (readMiss_ne_stretch h) x
  · rintro h sda rfl
    have hg (k : Fin 48) := (takes_afterRead (takes_podTaken_good h p (readEnds (.bits sda) s) k)).1
    refine ⟨getMsbD_podBytes sda, fun k hk => ?_, fun i he => ?_⟩
    · rw [hg, if_neg]
      · rfl
      · rintro ⟨hp, he⟩
        rcases hk with hk | hk
        · exact hk hp
        · exact Bool.false_ne_true (hk.symm.trans he)
    · rw [hg, if_pos ⟨podOf_gaugeOf p i, he⟩, channelOf_gaugeOf, replyCount_eq]
      rfl
  · intro h
    have hm := afterRead_more (reply := reply) (p := p) hr (by rwa [htail])
    rwa [htail] at hm
  · exact fun h => afterRead_last (htail.trans h)

end Sys2Proof.Machine
end

section
/-! The statement about bus clears: how a round goes on from one that succeeds, and how one that fails aborts it. -/

namespace Sys2Proof.Machine

/-! ## A bus clear that succeeds (R62, R63, R66, R70, R77) -/

theorem setBusState_eq (b : BusState) (s : State) :
    setBusState b s =
      { s with
        plan := { s.plan with busState := b }
        marks := { s.marks with plan := s.marks.plan || b != s.plan.busState } } := by
  rw [setBusState, markIf_planMark]
  rfl

/-- The state at the STOP of a bus clear: bus_state is OK, marked where that is new, and the bus is free one bit time
later (R60, R62, R76). -/
def clearedAt (stop : Nat) (s : State) : State :=
  { s with
    clk := stop
    plan := { s.plan with busState := .ok }
    marks := { s.marks with plan := s.marks.plan || decide (s.plan.busState = .fault) }
    round := { s.round with busFree := stop + busBit s } }

theorem ne_busState_ok (b : BusState) : (BusState.ok != b) = decide (b = .fault) := by cases b <;> rfl

theorem ne_busState_fault (b : BusState) : (BusState.fault != b) = decide (b = .ok) := by cases b <;> rfl

theorem busClearDone_succeeded {s : State} (h : s.plan.roundState = .clear) (n : Fin 9) :
    busClearDone (.sdaHigh n) s =
      afterClear (clearedAt (max s.clk (s.round.busStart + (n.val + 2) * busBit s)) s) := by
  have hd : busClearDone (.sdaHigh n) s = clearSucceeded (passTo (clearEnd (.sdaHigh n) s) s) := if_pos h
  rw [hd, clearSucceeded_eq, setBusState_eq, ne_busState_ok]
  rfl

theorem afterClear_restarting {s : State} (h : s.round.restarting = true) :
    afterClear s = endRestartedRound s := if_pos h

theorem afterClear_start {s : State} (hn : s.round.restarting = false) (hc : s.round.clearFor = .start) :
    afterClear s = latchStart s := by simp [afterClear, hn, hc]

theorem afterClear_latched {s : State} (hn : s.round.restarting = false) (hc : s.round.clearFor = .latch)
    (hp : s.round.pods ≠ []) : afterClear s = enterWait s := by simp [afterClear, hn, hc, hp]

theorem afterClear_podless {s : State} (hn : s.round.restarting = false) (hc : s.round.clearFor = .latch)
    (hp : s.round.pods = []) : afterClear s = completeRound false s := by simp [afterClear, hn, hc, hp]

theorem afterClear_pod {s : State} (hn : s.round.restarting = false) (hc : s.round.clearFor = .pod) :
    afterClear s = nextPod s := by simp [afterClear, hn, hc]

theorem nextPod_last {s : State} (h : s.round.todo.tail = []) : nextPod s = completeRound false (dropPod s) := by
  rw [nextPod_eq, if_pos (List.isEmpty_iff.mpr h)]

/-- The next START after a bus clear comes one bit time after its STOP. -/
theorem startTime_clearedAt (stop : Nat) (s : State) : startTime (clearedAt stop s) = stop + busBit s := by
  change max stop (stop + busBit s) = _
  omega

/-! ## Every pod of a list missed (R63, R66, R70, R84) -/

theorem missAll_cons (p : Fin 12) (ps : List (Fin 12)) (s : State) :
    missAll (p :: ps) s = missAll ps (roundMiss p .fault s) := rfl

/-- Only gauges, pods, their marks, the count of misses and the protection path differ. -/
def PodsMissed (s t : State) : Prop :=
  t = { s with
        gauges := t.gauges, gpods := t.gpods, rams := t.rams, groups := t.groups, limits := t.limits,
        round := { s.round with podsMissed := t.round.podsMissed },
        marks :=
          { s.marks with
            gauge := t.marks.gauge, gpod := t.marks.gpod, ram := t.marks.ram, group := t.marks.group,
            limit := t.marks.limit } }

theorem PodsMissed.trans {a b c : State} (h : PodsMissed a b) (k : PodsMissed b c) : PodsMissed a c := by
  unfold PodsMissed at *
  rw [k, h]

theorem podsMissed_roundMiss (p : Fin 12) (why : MissReason) (s : State) : PodsMissed s (roundMiss p why s) := by
  have h := gaugesTake_roundMiss p why s
  unfold GaugesTake at h
  rw [podCounted_missed] at h
  unfold PodsMissed
  rw [h]

theorem podsMissed_missAll (ps : List (Fin 12)) (s : State) : PodsMissed s (missAll ps s) := by
  induction ps generalizing s with
  | nil => exact Eq.refl s
  | cons p ps ih => exact (podsMissed_roundMiss p .fault s).trans (ih _)

theorem round_missAll (ps : List (Fin 12)) (s : State) :
    (missAll ps s).round = { s.round with podsMissed := s.round.podsMissed + ps.length } := by
  induction ps generalizing s with
  | nil => rfl
  | cons p ps ih =>
    rw [missAll_cons, ih, round_roundMiss, List.length_cons]
    simp only
    congr 1
    omega

/-- The pods and their marks after one of them is missed. -/
theorem gpods_roundMiss (p : Fin 12) (why : MissReason) (s : State) :
    (roundMiss p why s).gpods = s.gpods.set p (s.gpods[p].missed why) ∧
      (roundMiss p why s).marks.gpod =
        s.marks.gpod.set p (s.marks.gpod[p] || decide (s.gpods[p].consecutiveMisses = 0)) := by
  have h := gaugesTake_roundMiss p why s
  unfold GaugesTake at h
  rw [podCounted_missed] at h
  rw [h]
  exact ⟨rfl, rfl⟩

/-- Each pod of a list without duplicates is missed once, and no other. -/
theorem gpod_missAll {ps : List (Fin 12)} (hd : ps.Nodup) (s : State) (q : Fin 12) :
    (missAll ps s).gpods[q] = (if q ∈ ps then s.gpods[q].missed .fault else s.gpods[q]) ∧
      (missAll ps s).marks.gpod[q] =
        (s.marks.gpod[q] || decide (q ∈ ps ∧ s.gpods[q].consecutiveMisses = 0)) := by
  induction ps generalizing s with
  | nil => simp [missAll]
  | cons p ps ih =>
    obtain ⟨hp, hd⟩ := List.nodup_cons.mp hd
    obtain ⟨hg, hm⟩ := gpods_roundMiss p .fault s
    obtain ⟨hgs, hms⟩ := ih hd (roundMiss p .fault s)
    rw [missAll_cons, hgs, hms, hg, hm, getElem_set_fin, getElem_set_fin]
    by_cases h : p = q
    · subst h
      simp [hp]
    · simp [h, Ne.symm h]

/-- A gauge that keeps its record has kept its mark. -/
theorem Takes.stands {k : Fin 48} {s t : State} (h : Takes k s.gauges[k] s t) : GaugeStands k s t := by
  obtain ⟨hg, hm⟩ := h
  exact ⟨hg, by simpa using hm⟩

theorem agedBy_other {p : Fin 12} {k : Fin 48} (h : podOf k ≠ p) (s : State) : agedBy p s k = s.gauges[k] :=
  if_neg fun ha => h ha.1

/-- What a gauge is after its pod is missed, where a list names the pod (R84). -/
theorem agedBy_own (ps : List (Fin 12)) (s : State) (k : Fin 48) :
    (if podOf k ∈ ps then agedBy (podOf k) s k else s.gauges[k]) =
      if podOf k ∈ ps ∧ s.gauges[k].enabled = true ∧
          s.hall.staleLimit ≤ satInc 255 s.gpods[podOf k].consecutiveMisses ∧ s.gauges[k].state ≠ .disabled then
        { s.gauges[k] with state := .stale }
      else s.gauges[k] := by
  by_cases hk : podOf k ∈ ps <;> simp [agedBy, hk]

/-- The gauges of each pod of a list without duplicates age by its one miss, and no others. -/
theorem takes_missAll {ps : List (Fin 12)} (hd : ps.Nodup) (s : State) (k : Fin 48) :
    Takes k (if podOf k ∈ ps then agedBy (podOf k) s k else s.gauges[k]) s (missAll ps s) := by
  induction ps generalizing s with
  | nil => exact (GaugeStands.rfl s).takes
  | cons p ps ih =>
    obtain ⟨hp, hd⟩ := List.nodup_cons.mp hd
    have hm := takes_roundMiss p .fault s k
    have hrest := ih hd (roundMiss p .fault s)
    rw [missAll_cons]
    by_cases h : podOf k = p
    · rw [h, if_neg hp] at hrest
      rw [h, if_pos List.mem_cons_self]
      exact hm.of_stands_right hrest.stands
    · rw [agedBy_other h] at hm
      have hhall : (roundMiss p .fault s).hall = s.hall := by
        rw [show roundMiss p .fault s = _ from podsMissed_roundMiss p .fault s]
      have hgpod : (roundMiss p .fault s).gpods[podOf k] = s.gpods[podOf k] := by
        rw [(gpods_roundMiss p .fault s).1, getElem_set_fin, if_neg (Ne.symm h)]
      have hage : agedBy (podOf k) (roundMiss p .fault s) k = agedBy (podOf k) s k := by
        simp only [agedBy, hhall, hgpod, hm.1]
      rw [hage, hm.1] at hrest
      simp only [List.mem_cons, h, false_or]
      exact hrest.of_stands_left hm.stands

theorem limitsRest_missAll {ps : List (Fin 12)} {s : State} (h : ∀ p ∈ ps, NoStrainLimit s p) :
    LimitsRest s (missAll ps s) := by
  induction ps generalizing s with
  | nil => exact ⟨rfl, rfl, rfl, rfl, rfl, rfl⟩
  | cons p ps ih =>
    have hm := limitsRest_roundMiss (h p List.mem_cons_self) .fault
    exact hm.trans (ih fun q hq => hm.noStrainLimit (h q (List.mem_cons_of_mem p hq)))

/-! ## A bus clear that fails (R62, R63, R66, R70, R71) -/

/-- The pods that a failed bus clear leaves unread. -/
def Round.unreached (r : Round) : List (Fin 12) := if r.clearFor = .pod then r.todo.tail else r.pods

/-- The state in which a failed bus clear hands over the pods: bus_state is FAULT, and a round whose latch was still to
come captures its values unanswered (R62, R63, R72). -/
def faulted (s : State) : State :=
  { s with
    plan := { s.plan with busState := .fault }
    marks := { s.marks with plan := s.marks.plan || decide (s.plan.busState = .ok) }
    round :=
      { s.round with
        latchTime := if s.round.clearFor = .start then hallTime s else s.round.latchTime
        trigCommand :=
          if s.round.clearFor = .start then s.groups[s.round.group].newtons else s.round.trigCommand
        trigLifeCycles :=
          if s.round.clearFor = .start then s.groups[s.round.group].lifeCycles else s.round.trigLifeCycles
        latchAnswered := if s.round.clearFor = .start then false else s.round.latchAnswered } }

theorem clearFailed_restarting {s : State} (h : s.round.restarting = true) :
    clearFailed s =
      { s with
        marks := { s.marks with plan := s.marks.plan || decide (s.plan.busState = .ok) }
        plan := { s.plan with busState := .fault, roundState := .idle }
        round := { s.round with restarting := false } } := by
  unfold clearFailed
  simp only [setBusState_eq, ne_busState_fault, h, if_true]
  rfl

/-- Once the latch has been sent, a failed bus clear leaves the values that it captured. -/
theorem faulted_latched {s : State} (h : s.round.clearFor ≠ .start) :
    faulted s =
      { s with
        plan := { s.plan with busState := .fault }
        marks := { s.marks with plan := s.marks.plan || decide (s.plan.busState = .ok) } } := by
  simp only [faulted, if_neg h]

/-- The round that a failed bus clear aborts: every pod unread is missed, then the round completes. -/
theorem clearFailed_aborts {s : State} (h : s.round.restarting = false) :
    clearFailed s = completeRound true (missAll s.round.unreached (faulted s)) := by
  unfold clearFailed
  simp only [setBusState_eq, ne_busState_fault, Round.unreached]
  rw [if_neg (by simp [h])]
  cases hc : s.round.clearFor with
  | start => simp [faulted, hc, setRound, hallTime]
  | latch =>
    rw [faulted_latched (by simp [hc])]
    rfl
  | pod =>
    rw [faulted_latched (by simp [hc])]
    rfl

/-- The frame of an aborted round. -/
theorem clearFailed_frame {s : State} (h : s.round.restarting = false) :
    let t := clearFailed s
    t = { s with
          gauges := t.gauges, gpods := t.gpods, plan := t.plan, round := t.round, rams := t.rams, groups := t.groups,
          limits := t.limits,
          marks :=
            { s.marks with
              plan := true, gauge := t.marks.gauge, gpod := t.marks.gpod, ram := t.marks.ram,
              group := t.marks.group, limit := t.marks.limit } } := by
  have hv := podsMissed_missAll s.round.unreached (faulted s)
  have ht := completes_completeRound true (missAll s.round.unreached (faulted s))
  unfold PodsMissed at hv
  unfold Completes at ht
  simp only [clearFailed_aborts h]
  generalize missAll s.round.unreached (faulted s) = v at hv ht
  generalize completeRound true v = t at ht
  rw [ht, hv, Bool.or_true]
  rfl

/-- A completion leaves the gauges and their marks. -/
theorem Completes.gaugeStands {aborted : Bool} {s t : State} (h : Completes aborted s t) (k : Fin 48) :
    GaugeStands k s t := by
  unfold Completes at h
  exact .of_eq (by rw [h]) (by rw [h])

/-- A completion leaves the pods and their marks. -/
theorem Completes.gpods {aborted : Bool} {s t : State} (h : Completes aborted s t) :
    t.gpods = s.gpods ∧ t.marks.gpod = s.marks.gpod := by
  unfold Completes at h
  rw [h]
  exact ⟨rfl, rfl⟩

theorem takes_clearFailed {s : State} (h : s.round.restarting = false) (hd : s.round.unreached.Nodup) (k : Fin 48) :
    Takes k (if podOf k ∈ s.round.unreached then agedBy (podOf k) s k else s.gauges[k]) s (clearFailed s) := by
  rw [clearFailed_aborts h]
  have ht := takes_missAll hd (faulted s) k
  exact (ht.of_stands_right ((completes_completeRound true _).gaugeStands k)).of_stands_left (.of_eq rfl rfl)

theorem gpod_clearFailed {s : State} (h : s.round.restarting = false) (hd : s.round.unreached.Nodup) (p : Fin 12) :
    (clearFailed s).gpods[p] = (if p ∈ s.round.unreached then s.gpods[p].missed .fault else s.gpods[p]) ∧
      (clearFailed s).marks.gpod[p] =
        (s.marks.gpod[p] || decide (p ∈ s.round.unreached ∧ s.gpods[p].consecutiveMisses = 0)) := by
  obtain ⟨hg, hm⟩ := (completes_completeRound true (missAll s.round.unreached (faulted s))).gpods
  rw [clearFailed_aborts h, hg, hm]
  exact gpod_missAll hd (faulted s) p

theorem limitsRest_clearFailed {s : State} (h : s.round.restarting = false)
    (hp : ∀ p, p ∈ s.round.unreached ∨ p ∈ s.round.pods → NoStrainLimit s p) : LimitsRest s (clearFailed s) := by
  have hm := limitsRest_missAll (s := faulted s) fun p hu => hp p (.inl hu)
  have hpods : (missAll s.round.unreached (faulted s)).round.pods = s.round.pods := by
    rw [round_missAll]
    rfl
  rw [clearFailed_aborts h]
  refine LimitsRest.trans (b := missAll s.round.unreached (faulted s)) hm (completeRound_limitsRest true ?_)
  rw [hpods]
  exact fun p hq => hm.noStrainLimit (s := faulted s) (hp p (.inr hq))

/-- The round and the PLAN record after an aborted round, the summary of the round as its pods are missed. -/
theorem round_clearFailed {s : State} (h : s.round.restarting = false) :
    (clearFailed s).plan =
        Plan.summarised true (missAll s.round.unreached (faulted s)).round { s.plan with busState := .fault } ∧
      (clearFailed s).round =
        { (faulted s).round with
          podsMissed := s.round.podsMissed + s.round.unreached.length
          restFlag := s.round.restFlag || decide (s.plan.mode = .cyclic) } := by
  have ht := completes_completeRound true (missAll s.round.unreached (faulted s))
  have hplan : (missAll s.round.unreached (faulted s)).plan = (faulted s).plan := by
    rw [show missAll s.round.unreached (faulted s) = _ from podsMissed_missAll _ _]
  rw [clearFailed_aborts h, ht.plan, ht.round, hplan, round_missAll]
  exact ⟨rfl, rfl⟩

/-- A failed bus clear that ends at a moment of the clock. -/
theorem busClearDone_failed {result : BusClearEnd} {s : State} {clk : Nat} (hc : s.plan.roundState = .clear)
    (h : result = .sdaLow ∧ clk = max s.clk (s.round.busStart + 9 * busBit s) ∨
      result = .sclHeld ∧ clk = max s.clk (stretchEnd s)) :
    busClearDone result s = clearFailed { s with clk := clk } := by
  rcases h with ⟨rfl, rfl⟩ | ⟨rfl, rfl⟩
  · exact if_pos hc
  · exact if_pos hc

/-- Settles O24: a clear that succeeds by what it was for, and one that fails by the pods that it leaves unread. -/
theorem busClearsGoOnOrAbort : Obligations.BusClearsGoOnOrAbort := by
  refine ⟨fun n s hi hs => ?_, fun result s hi hs clk hclk => ?_⟩
  · intro bit stop cleared
    have hbit : bit = busBit s := (busBit_eq s).symm
    have hdone : exec (.busClearDone (.sdaHigh n)) s = .next (afterClear (clearedAt stop s)) := by
      refine (event_out hi).trans (congrArg _ ?_)
      rw [busClearDone_succeeded hs, ← hbit]
    rw [hdone]
    simp only [cleared, hbit]
    clear_value stop
    refine ⟨fun i => ?_, fun hn => ?_, fun hn hc => ?_, fun hn hc hp => ?_, fun hn hc hp => ?_, fun hn hc ht => ?_,
      fun hn hc ht => ?_⟩
    · obtain ⟨hhigh, hlow⟩ := sclReleased_eq (clockBits_clear hi hs) i
      refine ⟨hhigh, hlow, ?_⟩
      simp [sdaReleased, busLevels_released (s := s) (by simp [hs]) (by simp [hs])]
    · rw [afterClear_restarting (s := clearedAt stop s) hn]
      rfl
    · rw [afterClear_start (s := clearedAt stop s) hn hc, latchStart_eq, startTime_clearedAt]
      rfl
    · rw [afterClear_latched (s := clearedAt stop s) hn hc hp]
      rfl
    · rw [afterClear_podless (s := clearedAt stop s) hn hc hp]
      rfl
    · rw [afterClear_pod (s := clearedAt stop s) hn hc, nextPod_more (s := clearedAt stop s) ht]
      have hstart := startTime_clearedAt stop s
      unfold startTime at hstart
      rw [hstart]
      rfl
    · rw [afterClear_pod (s := clearedAt stop s) hn hc, nextPod_last (s := clearedAt stop s) ht]
      simp only [dropPod, clearedAt, setRound, ht]
  · rw [← busBit_eq] at hclk
    have hdone := (event_out (f := busClearDone result) hi).trans (congrArg _ (busClearDone_failed hs hclk))
    refine ⟨fun hn => hdone.trans (congrArg _ (clearFailed_restarting hn)), fun hn => ?_⟩
    intro missed hd
    have hg := takes_clearFailed (s := { s with clk := clk }) hn hd
    have hp := gpod_clearFailed (s := { s with clk := clk }) hn hd
    obtain ⟨hplan, hround⟩ := round_clearFailed (s := { s with clk := clk }) hn
    refine ⟨_, hdone, clearFailed_frame hn, fun k => (hg k).mark, fun p => (hp p).2,
      limitsRest_clearFailed (s := { s with clk := clk }) hn, ?_, ?_, fun p => ?_, fun k => ?_⟩
    · rw [hplan, round_missAll]
      rfl
    · rw [hplan, hround, round_missAll]
      rfl
    · exact (hp p).1
    · exact (hg k).1.trans (agedBy_own missed { s with clk := clk } k)

end Sys2Proof.Machine
end

section
/-! GAUGE_ZERO and PEAK_RESET: what a selector reaches, and the statement about them. -/

namespace Sys2Proof.Machine

/-! ## The selector (R86, R87) -/

theorem onGauges_key {sel : Byte} {k : Fin 48} (h : sel.toNat = k.val) (f : Gauge → Gauge) (s : State) :
    onGauges sel f s =
      if s.gauges[k].enabled = true then (ok, { s with gauges := s.gauges.set k (f s.gauges[k]) })
      else (refuse .wrongState, s) := by
  simp [onGauges, h]

theorem onGauges_all (f : Gauge → Gauge) (s : State) :
    onGauges 0xFF f s = (ok, { s with gauges := mapBank (fun _ g => if g.enabled then f g else g) s.gauges }) := rfl

theorem onGauges_badKey {sel : Byte} (hk : 48 ≤ sel.toNat) (ha : sel ≠ 0xFF) (f : Gauge → Gauge) (s : State) :
    onGauges sel f s = (refuse .badKey, s) := by
  rw [onGauges, dif_neg (Nat.not_lt.mpr hk), if_neg ha]

/-- What a request to enabled gauges answers under every selector. -/
theorem onGauges_answers {c : Byte → Instr} {f : Gauge → Gauge}
    (hc : ∀ sel s, exec (c sel) s = request (c sel) (onGauges sel f) s) :
    (∀ (s : State) (k : Fin 48), Due (c (byte k.val)) s →
        (s.gauges[k].enabled = true →
          exec (c (byte k.val)) s =
            .next { s with gauges := s.gauges.set k (f s.gauges[k]), port := answered ok s }) ∧
          (s.gauges[k].enabled = false → Refuses (c (byte k.val)) .wrongState s)) ∧
      (∀ s : State, Due (c 0xFF) s →
        ∃ t, exec (c 0xFF) s = .next t ∧
          t = { s with gauges := t.gauges, port := answered ok s } ∧
          ∀ k : Fin 48, t.gauges[k] = if s.gauges[k].enabled = true then f s.gauges[k] else s.gauges[k]) ∧
      ∀ (s : State) (sel : Byte), Due (c sel) s → 48 ≤ sel.toNat → sel ≠ 0xFF → Refuses (c sel) .badKey s := by
  refine ⟨fun s k hd => ?_, fun s hd => ?_, fun s sel hd hk ha => ?_⟩
  · have hkey := onGauges_key (byte_toNat (show k.val < 256 by omega)) f s
    refine ⟨fun he => ?_, fun he => ?_⟩
    · rw [hc, request_due hd, hkey, if_pos he]
      rfl
    · exact (hc _ s).trans (request_due_idle hd (hkey.trans (if_neg (by rw [he]; decide))))
  · rw [hc, request_due hd, onGauges_all]
    exact ⟨_, rfl, rfl, fun k => mapBank_getElem _ _ _ _⟩
  · exact (hc sel s).trans (request_due_idle hd (onGauges_badKey hk ha f s))

/-- Settles O26: both requests reach the gauges by the same selector. -/
theorem gaugeRequestsActOnEnabledGauges : Obligations.GaugeRequestsActOnEnabledGauges := by
  refine ⟨onGauges_answers (c := .gaugeZero) (f := fun g => { g with zeroPending := true }) fun _ _ => rfl, ?_⟩
  intro reset
  have hreset : reset = Gauge.resetPeaks := by
    funext ⟨_, _, _, _, _, _, strain, _⟩
    cases strain <;> rfl
  rw [hreset]
  exact onGauges_answers (c := .peakReset) fun _ _ => rfl

end Sys2Proof.Machine
end

section
/-! What an accepted WRITE makes of a GAUGE record, and the statement about it. -/

namespace Sys2Proof.Machine

/-! ## The pairs of the WRITE -/

theorem putGauges_keep (pairs : List (Nat × Int)) (g : Gauge) :
    (putAll Gauge.put pairs g).enabled = g.enabled ∧ (putAll Gauge.put pairs g).state = g.state :=
  putAll_invariant (P := fun x : Gauge => x.enabled = g.enabled ∧ x.state = g.state)
    (fun p _ y hy => by unfold Gauge.put; split <;> exact hy) ⟨rfl, rfl⟩

/-- No conversion field of an enabled gauge passes the pair checks (R79, R178 step 4). -/
theorem putGauges_enabled {c : Instr} {k : Fin 48} {items : List Byte} {pairs : List (Nat × Int)} {s : State}
    (hp : Passes c (.gauge k) items pairs s) (he : s.gauges[k].enabled = true) :
    putAll Gauge.put pairs s.gauges[k] = s.gauges[k] := by
  obtain ⟨-, -, hch⟩ := hp
  refine putAll_invariant (P := fun x => x = s.gauges[k]) (fun p hm y hy => ?_) rfl
  have hl := letsWrite_of_checkPairs hch (by simp) p hm
  have hf : ¬(p.1 = 2 ∨ p.1 = 3 ∨ p.1 = 4) := fun hf => by
    rw [(letsWrite_gauge s k p.1).mpr ⟨hf, he⟩] at hl
    cases hl
  unfold Gauge.put
  split <;> simp_all

/-! ## The record replaced (R88, R89) -/

theorem putGauge_of_state_eq {k : Fin 48} {x : Gauge} {s : State} (h : x.state = s.gauges[k].state) :
    putGauge k x s = { s with gauges := s.gauges.set k x } := if_pos h

theorem putGauge_frame {k : Fin 48} {x : Gauge} {s : State} (h : x.state ≠ s.gauges[k].state) :
    let t := putGauge k x s
    t = { s with
          gauges := s.gauges.set k x, rams := t.rams, groups := t.groups, limits := t.limits,
          marks :=
            { s.marks with
              gauge := s.marks.gauge.set k true, ram := t.marks.ram, group := t.marks.group,
              limit := t.marks.limit } } := by
  have hg := guards_setGauge_putGauge k x s
  unfold Guards at hg
  rw [setGauge_eq, decide_eq_true h, Bool.or_true] at hg
  exact hg

/-- With no limit on this gauge, its change moves nothing of the protection path. -/
theorem limitsRest_putGauge {k : Fin 48} {s : State}
    (h : ∀ (l : Fin 24) (z : Limit), s.limits[l] = some z → z.source ≠ .gaugeStrain ∨ z.sourceKey ≠ k.val)
    (x : Gauge) : LimitsRest s (putGauge k x s) := by
  have hs : LimitsRest s (setGauge k x s) := by
    rw [setGauge_eq]
    exact ⟨rfl, rfl, rfl, rfl, rfl, rfl⟩
  have hunheard (i : Fin 24) (l : Limit) (hl : (setGauge k x s).limits[i] = some l) : l.isGaugeOf k = false := by
    rw [setGauge_eq] at hl
    rcases h i l hl with hsource | hkey
    · simp [Limit.isGaugeOf, hsource]
    · simp [Limit.isGaugeOf, hkey]
  rw [putGauge_eq]
  split
  · exact hs
  · rw [evalWhere_unheard hunheard]
    exact hs

/-! ## The three effects of the WRITE (R79) -/

section
variable {k : Fin 48} {pairs : List (Nat × Int)} {s : State}

theorem writeGauge_enables (hc : carried 1 pairs = some 1) (he : s.gauges[k].enabled = false) :
    writeGauge k pairs s = putGauge k (putAll Gauge.put pairs s.gauges[k]).enable s := by
  simp only [writeGauge, hc, he, Bool.false_eq_true, if_false, if_true]

theorem writeGauge_stays_enabled (hc : carried 1 pairs = some 1) (he : s.gauges[k].enabled = true) :
    writeGauge k pairs s = putGauge k (putAll Gauge.put pairs s.gauges[k]) s := by
  simp only [writeGauge, hc, he, if_true]

theorem writeGauge_stays_disabled (hc : carried 1 pairs ≠ some 1) (he : s.gauges[k].enabled = false) :
    writeGauge k pairs s = putGauge k (putAll Gauge.put pairs s.gauges[k]) s := by
  unfold writeGauge
  simp only [he]
  split
  next v hv =>
    have h1 : v ≠ 1 := fun h => hc (h ▸ hv)
    simp only [h1, Bool.false_eq_true, if_false]
  · rfl

/-- The pod of a gauge that is disabled stays in use by another gauge alone (R79, R85). -/
theorem podInUse_without {x : Gauge} (hx : x.enabled = false) {t : State} (ht : t.gauges = s.gauges.set k x) :
    podInUse (podOf k) t = true ↔
      ∃ i : Fin 4, gaugeOf (podOf k) i ≠ k ∧ s.gauges[gaugeOf (podOf k) i].enabled = true := by
  simp only [podInUse, List.any_eq_true, List.mem_finRange, true_and, ht, getElem_set_fin]
  refine exists_congr fun i => ?_
  by_cases hi : gaugeOf (podOf k) i = k
  · simp [hi, hx]
  · simp [hi, Ne.symm hi]

/-- The last gauge of its pod to leave use ends the run of misses (R79, R85). -/
theorem writeGauge_disables (hc : carried 1 pairs = some 0) (he : s.gauges[k].enabled = true) :
    writeGauge k pairs s =
      let t := putGauge k (putAll Gauge.put pairs s.gauges[k]).disable s
      { t with
        gpods :=
          if ∃ i : Fin 4, gaugeOf (podOf k) i ≠ k ∧ s.gauges[gaugeOf (podOf k) i].enabled = true then s.gpods
          else s.gpods.set (podOf k) { s.gpods[podOf k] with consecutiveMisses := 0 } } := by
  have hw : writeGauge k pairs s =
      let t := putGauge k (putAll Gauge.put pairs s.gauges[k]).disable s
      if podInUse (podOf k) t then t
      else { t with gpods := t.gpods.set (podOf k) { t.gpods[podOf k] with consecutiveMisses := 0 } } := by
    simp only [writeGauge, hc, he, if_true, zero_ne_one, if_false]
  have hg := gauges_putGauge k (putAll Gauge.put pairs s.gauges[k]).disable s
  have hp : (putGauge k (putAll Gauge.put pairs s.gauges[k]).disable s).gpods = s.gpods := by
    rw [show putGauge _ _ s = _ from gaugesTake_putGauge _ _ s]
  rw [hw]
  generalize putGauge k (putAll Gauge.put pairs s.gauges[k]).disable s = t at hg hp
  have huse := podInUse_without (t := t) rfl hg
  simp only
  split
  next hu => rw [if_pos (huse.mp hu), ← hp]
  next hu =>
    rw [if_neg (fun h => hu (huse.mpr h))]
    simp only [hp]

end

/-- Settles O28: the WRITE is one replacement of the record, and beside it only a pod that leaves use changes. -/
theorem gaugeWritesEnableAndDisable : Obligations.GaugeWritesEnableAndDisable := by
  intro c k items pairs s x y silent hc hp hstate
  have hexec : exec c s = .next (answer ok (writeGauge k pairs s)) :=
    exec_write_accepted (asTaken_gaugeWrite hc) (recordOf_gauge k) hp rfl
  obtain ⟨-, hystate⟩ := putGauges_keep pairs s.gauges[k]
  have hdisabled (he : x.enabled = false) : s.gauges[k].state = .disabled :=
    not_not.mp fun hn => by simp [hstate.mpr hn] at he
  refine ⟨fun h1 he => ?_, fun h1 he => ?_, fun h0 he => ?_, fun he h1 => ?_⟩
  · have hsame : writeGauge k pairs s = s := by
      rw [writeGauge_stays_enabled h1 he, putGauge_of_state_eq hystate, putGauges_enabled hp he]
      simp
    rw [Idles, hexec, hsame]
    rfl
  · have hne : y.enable.state ≠ s.gauges[k].state := fun e => by
      rw [hdisabled he] at e
      cases e
    rw [hexec, writeGauge_enables h1 he]
    exact ⟨_, rfl, congrArg (answer ok) (putGauge_frame hne), fun hs => limitsRest_putGauge hs _⟩
  · have hne : x.disable.state ≠ s.gauges[k].state := fun e => hstate.mp he e.symm
    have hframe := putGauge_frame hne
    have hrest (hs : silent) := limitsRest_putGauge hs x.disable
    rw [hexec, writeGauge_disables h0 he, putGauges_enabled hp he]
    simp only
    generalize (if ∃ i : Fin 4, gaugeOf (podOf k) i ≠ k ∧ s.gauges[gaugeOf (podOf k) i].enabled = true then s.gpods
      else s.gpods.set (podOf k) { s.gpods[podOf k] with consecutiveMisses := 0 }) = gpods
    exact ⟨_, rfl, congrArg (fun t => answer ok { t with gpods := gpods }) hframe, hrest⟩
  · rw [hexec, writeGauge_stays_disabled h1 he, putGauge_of_state_eq hystate]
    rfl

end Sys2Proof.Machine
end

section
/-! What GaugeLaw says of one GAUGE record, and that a reading, a miss, a request and a WRITE each keep it. -/

namespace Sys2Proof.Machine

/-! ## One record -/

/-- What GaugeLaw says of one record (R78, R79, R81, R82). -/
structure Gauge.Lawful (g : Gauge) : Prop where
  disabled : g.enabled = false ↔ g.state = .disabled
  empty : g.enabled = false → g.count = none ∧ g.strain = none ∧ g.zeroPending = false
  counted : g.strain.isSome = true → g.count.isSome = true
  strained : g.state = .ok → g.strain.isSome = true
  peaks : ∀ e, g.strain = some e → e.peakMin ≤ e.now ∧ e.now ≤ e.peakMax

theorem gaugeLaw_iff (s : State) : GaugeLaw s ↔ ∀ k : Fin 48, (s.gauges[k]).Lawful :=
  forall_congr' fun _ =>
    ⟨fun ⟨hd, he, hc, hs, hp⟩ => ⟨hd, he, hc, hs, hp⟩, fun ⟨hd, he, hc, hs, hp⟩ => ⟨hd, he, hc, hs, hp⟩⟩

/-- The peaks stay about the strain of a converted reading (R81 step 3). -/
theorem peaks_widen (old : Option Strain) (e : Int) :
    (widen old e).peakMin ≤ (widen old e).now ∧ (widen old e).now ≤ (widen old e).peakMax := by
  cases old with
  | none => exact ⟨le_refl e, le_refl e⟩
  | some x => exact ⟨min_le_right _ _, le_max_right _ _⟩

namespace Gauge.Lawful

variable {g : Gauge}

/-- A good reading of an enabled gauge: flagged, a pending zero, or converted (R81 to R83). -/
theorem reading (h : g.Lawful) (he : g.enabled = true) (c : Int) (flagged : Bool) : (g.reading c flagged).Lawful := by
  unfold Gauge.reading
  split
  · exact ⟨by simp [he], by simp [he], by simp, by simp, h.peaks⟩
  · split
    · exact ⟨by simp [he], by simp [he], by simp, by simp, by simp⟩
    · refine ⟨by simp [he], by simp [he], by simp, by simp, fun e hw => ?_⟩
      exact Option.some.inj hw ▸ peaks_widen g.strain _

/-- A gauge whose pod is missed too often is STALE, and keeps what it holds (R84). -/
theorem stale (h : g.Lawful) (hd : g.state ≠ .disabled) : ({ g with state := .stale } : Gauge).Lawful := by
  have he : ¬g.enabled = false := fun e => hd (h.disabled.mp e)
  exact ⟨by simpa using he, h.empty, h.counted, by simp, h.peaks⟩

theorem zeroPending (h : g.Lawful) (he : g.enabled = true) : ({ g with zeroPending := true } : Gauge).Lawful :=
  ⟨h.disabled, by simp [he], h.counted, h.strained, h.peaks⟩

/-- Both peaks at the present strain (R87). -/
theorem resetPeaks (h : g.Lawful) : g.resetPeaks.Lawful := by
  refine ⟨h.disabled, fun e => ?_, by simpa [Gauge.resetPeaks] using h.counted,
    by simpa [Gauge.resetPeaks] using h.strained, fun e he => ?_⟩
  · obtain ⟨hc, hs, hz⟩ := h.empty e
    exact ⟨hc, by simp [Gauge.resetPeaks, hs], hz⟩
  · obtain ⟨x, -, rfl⟩ := Option.map_eq_some_iff.mp he
    exact ⟨le_refl _, le_refl _⟩

/-- A gauge just enabled, and one just disabled, hold nothing (R79). -/
theorem enable (g : Gauge) : g.enable.Lawful := by
  constructor <;> simp [Gauge.enable]

theorem disable (g : Gauge) : g.disable.Lawful := by
  constructor <;> simp [Gauge.disable]

/-- No field that the law names can be written but enabled, which acts through R79 (Table 5-1). -/
theorem putAll (h : g.Lawful) (pairs : List (Nat × Int)) : (putAll Gauge.put pairs g).Lawful := by
  refine putAll_invariant (fun p _ y hy => ?_) h
  unfold Gauge.put
  split
  iterate 3 exact ⟨hy.disabled, hy.empty, hy.counted, hy.strained, hy.peaks⟩
  exact hy

end Gauge.Lawful

/-! ## The operations of the strain stream -/

/-- A miss ages the gauges of its pod, or leaves them (R84). -/
theorem lawful_agedBy {s : State} {k : Fin 48} (h : (s.gauges[k]).Lawful) (p : Fin 12) : (agedBy p s k).Lawful := by
  unfold agedBy
  split
  next ha =>
    obtain ⟨-, -, -, hd⟩ := ha
    exact h.stale hd
  · exact h

/-- From s to t every lawful gauge stays lawful, and the acoustic pods stand: what the round plan and the gauge
records do. -/
structure Measures (s t : State) : Prop where
  gauges : ∀ k : Fin 48, (s.gauges[k]).Lawful → (t.gauges[k]).Lawful
  apods : t.apods = s.apods

namespace Measures

theorem of_eq {s t : State} (hg : t.gauges = s.gauges) (ha : t.apods = s.apods) : Measures s t :=
  ⟨fun k h => by rwa [hg], ha⟩

theorem refl (s : State) : Measures s s := of_eq rfl rfl

theorem trans {a b c : State} (h : Measures a b) (l : Measures b c) : Measures a c :=
  ⟨fun k hk => l.gauges k (h.gauges k hk), l.apods.trans h.apods⟩

theorem gaugeLaw {s t : State} (h : Measures s t) (hl : GaugeLaw s) : GaugeLaw t :=
  (gaugeLaw_iff t).mpr fun k => h.gauges k ((gaugeLaw_iff s).mp hl k)

theorem of_plans {s t : State} (h : Plans s t) : Measures s t := by
  unfold Plans at h
  exact of_eq (by rw [h]) (by rw [h])

theorem of_setFrame {s t : State} (h : SetFrame s t) : Measures s t := of_eq (by rw [h.frame]) (by rw [h.frame])

theorem completeRound (aborted : Bool) (s : State) : Measures s (completeRound aborted s) := by
  have h := completes_completeRound aborted s
  unfold Completes at h
  exact of_eq (by rw [h]) (by rw [h])

theorem nextPod (s : State) : Measures s (nextPod s) := by
  have h := goesOn_nextPod s
  unfold GoesOn at h
  exact of_eq (by rw [h]) (by rw [h])

theorem roundMiss (p : Fin 12) (why : MissReason) (s : State) : Measures s (roundMiss p why s) := by
  refine ⟨fun k h => ?_, ?_⟩
  · rw [(takes_roundMiss p why s k).1]
    exact lawful_agedBy h p
  · rw [show Machine.roundMiss p why s = _ from podsMissed_roundMiss p why s]

theorem missAll (ps : List (Fin 12)) (s : State) : Measures s (missAll ps s) := by
  induction ps generalizing s with
  | nil => exact refl s
  | cons p ps ih => exact (roundMiss p .fault s).trans (ih _)

/-- A pod handed over as its reply is judged (R69, R81, R84). -/
theorem podTaken (reply : PodReply) (p : Fin 12) (s : State) : Measures s (podTaken reply p s) := by
  cases hm : readMiss reply with
  | some why =>
    rw [podTaken_missed hm]
    exact roundMiss p why s
  | none =>
    refine ⟨fun k h => ?_, ?_⟩
    · cases reply with
      | nack => cases hm
      | bits sda =>
        rw [(takes_podTaken_good hm p s k).1]
        split
        next hk => exact h.reading hk.2 _ _
        · exact h
    · rw [show Machine.podTaken reply p s = _ from gaugesTake_podTaken reply p s]
      rfl

theorem passTo (c : Nat) (s : State) : Measures s (passTo c s) := of_eq rfl rfl

theorem setRound (x : Round) (s : State) : Measures s (setRound x s) := of_eq rfl rfl

theorem setPlan (x : Plan) (s : State) : Measures s (setPlan x s) := of_eq rfl rfl

theorem setArmed (b : Bool) (s : State) : Measures s (setArmed b s) := of_eq (by simp [Machine.setArmed])
  (by simp [Machine.setArmed])

theorem enterWait (s : State) : Measures s (enterWait s) := of_eq rfl rfl

theorem endRestartedRound (s : State) : Measures s (endRestartedRound s) := of_eq rfl rfl

theorem setBusState (b : BusState) (s : State) : Measures s (setBusState b s) := by
  rw [setBusState_eq]
  exact of_eq rfl rfl

theorem afterClear (s : State) : Measures s (afterClear s) := by
  unfold Machine.afterClear
  split
  · exact endRestartedRound s
  · split
    · rw [latchStart_eq]
      exact of_eq rfl rfl
    · split
      · exact completeRound false s
      · exact enterWait s
    · exact nextPod s

theorem clearSucceeded (s : State) : Measures s (clearSucceeded s) := by
  rw [clearSucceeded_eq]
  exact ((setBusState .ok s).trans (setRound _ _)).trans (afterClear _)

theorem clearFailed (s : State) : Measures s (clearFailed s) := by
  cases h : s.round.restarting with
  | true =>
    rw [clearFailed_restarting h]
    exact of_eq rfl rfl
  | false =>
    rw [clearFailed_aborts h]
    have hf : Measures s (faulted s) := of_eq rfl rfl
    exact (hf.trans (missAll _ _)).trans (completeRound true _)

/-! ## The commands of the round plan and the gauge records -/

theorem sampleSet (counts : Vector (BitVec 16) 28) (s : State) : Measures s (sampleSet counts s) := by
  cases hs : s.scanEnds with
  | none =>
    simp only [Machine.sampleSet, hs]
    exact refl s
  | some e =>
    obtain ⟨a, ha, ht⟩ := sampleSet_frame hs counts
    have he : Measures s (atScanEnd e s) := of_eq rfl rfl
    have haux : Measures a (takeAux counts a) := of_eq rfl rfl
    exact ((he.trans (of_setFrame ha)).trans haux).trans (of_setFrame ht)

theorem latchBroadcastDone (addrAck dataAck : Bool) (s : State) :
    Measures s (latchBroadcastDone addrAck dataAck s) := by
  unfold Machine.latchBroadcastDone
  simp only
  split
  · have h (x : Round) (c : Nat) : Measures s (Machine.setRound x (stopSent (Machine.passTo c s))) := of_eq rfl rfl
    split
    · exact (h _ _).trans (completeRound _ _)
    · exact (h _ _).trans (enterWait _)
  · exact refl s

theorem latchWaitExpiry (s : State) : Measures s (latchWaitExpiry s) := by
  unfold Machine.latchWaitExpiry
  split
  · exact of_eq rfl rfl
  · exact refl s

theorem podReadDone (reply : PodReply) (s : State) : Measures s (podReadDone reply s) := by
  have hends : Measures s (readEnds reply s) := of_eq rfl rfl
  by_cases h : s.plan.roundState = .read ∧ s.round.restarting = false
  · cases ht : s.round.todo with
    | nil =>
      have hd : Machine.podReadDone reply s = readEnds reply s := by
        have htodo : (readEnds reply s).round.todo = [] := ht
        rw [Machine.podReadDone, if_pos h]
        change podJudged reply (readEnds reply s) = _
        rw [podJudged, htodo]
      rw [hd]
      exact hends
    | cons p rest =>
      rw [podReadDone_eq h.1 h.2 ht]
      exact (hends.trans (podTaken _ _ _)).trans (nextPod _)
  · rw [Machine.podReadDone, if_neg h]
    exact refl s

theorem stretchTimeout (s : State) : Measures s (stretchTimeout s) := by
  have hc (why : ClearReason) (t : State) : Measures t (clearStart why t) := of_eq rfl rfl
  unfold Machine.stretchTimeout
  simp only
  split
  · exact ((passTo _ _).trans (setRound _ _)).trans (hc _ _)
  · split
    · exact ((passTo _ _).trans (roundMiss _ _ _)).trans (hc _ _)
    · exact (passTo _ _).trans (hc _ _)
  all_goals exact refl s

theorem busClearDone (result : BusClearEnd) (s : State) : Measures s (busClearDone result s) := by
  unfold Machine.busClearDone
  simp only
  split
  · split
    · exact (passTo _ _).trans (clearSucceeded _)
    all_goals exact (passTo _ _).trans (clearFailed _)
  · exact refl s

theorem intervalTimerExpiry (s : State) : Measures s (intervalTimerExpiry s) := by
  unfold Machine.intervalTimerExpiry
  split
  · exact (setRound _ _).trans (of_plans (plans_trigger _ _))
  · exact refl s

theorem cyclicStart (s : State) : Measures s (cyclicStart s) := by
  unfold Machine.cyclicStart
  split
  · exact of_plans (plans_roundStart _ _ _)
  · exact refl s

theorem delayExpiry (s : State) : Measures s (delayExpiry s) := by
  unfold Machine.delayExpiry
  split
  · exact of_plans (plans_roundGoesOn s)
  · exact refl s

theorem roundRequest (s : State) : Measures s (roundRequest s).2 := by
  unfold Machine.roundRequest
  split
  · exact of_plans (plans_roundStart .supervisor false s)
  · exact refl s

/-- A change of enabled gauges that keeps what the law says of them (R86, R87). -/
theorem onGauges {f : Gauge → Gauge} (hf : ∀ g : Gauge, g.enabled = true → g.Lawful → (f g).Lawful) (sel : Byte)
    (s : State) : Measures s (onGauges sel f s).2 := by
  by_cases hs : sel.toNat < 48
  · rw [onGauges_key (k := ⟨sel.toNat, hs⟩) rfl]
    split
    next he =>
      refine ⟨fun k h => ?_, rfl⟩
      rw [getElem_set_fin]
      split
      next hk => exact hf _ he (hk ▸ h)
      · exact h
    · exact refl s
  · by_cases ha : sel = 0xFF
    · rw [ha, onGauges_all]
      refine ⟨fun k h => ?_, rfl⟩
      rw [Fin.getElem_fin, mapBank_getElem]
      split
      next he => exact hf _ he h
      · exact h
    · rw [onGauges_badKey (Nat.not_lt.mp hs) ha]
      exact refl s

theorem restartComplete (s : State) : Measures s (restartComplete s) := by
  unfold Machine.restartComplete
  simp only
  split
  · split
    · rw [endRestartedByte_eq]
      exact of_eq rfl rfl
    · exact of_eq rfl rfl
  · exact refl s

end Measures

end Sys2Proof.Machine
end

section
/-! What never reaches the acoustic pods: their records stand through every operation of the other streams and through
every command that is neither the acoustic line's nor a WRITE. -/

namespace Sys2Proof.Machine

/-! ## The shared operations -/

theorem Protects.apods {s t : State} (h : Protects s t) : t.apods = s.apods := by
  unfold Protects at h
  rw [h]

theorem Gathers.apods {s t : State} (h : Gathers s t) : t.apods = s.apods := by
  unfold Gathers at h
  rw [h]

theorem apods_forAll {n : Nat} {f : Fin n → State → State} (h : ∀ i t, (f i t).apods = t.apods) (s : State) :
    (forAll f s).apods = s.apods :=
  forAll_invariant (P := fun t => t.apods = s.apods) (fun i t ht => (h i t).trans ht) rfl

@[simp] theorem apods_unloadGroup (g : Fin 4) (s : State) : (unloadGroup g s).apods = s.apods :=
  (protects_unloadGroup g s).apods

@[simp] theorem apods_tripAll (cause : TripCause) (s : State) : (tripAll cause s).apods = s.apods :=
  (protects_tripAll cause s).apods

@[simp] theorem apods_notifyRelease (l : Limit) (s : State) : (notifyRelease l s).apods = s.apods :=
  (protects_notifyRelease l s).apods

@[simp] theorem apods_evalLimit (i : Fin 24) (s : State) : (evalLimit i s).apods = s.apods :=
  (protects_evalLimit i s).apods

@[simp] theorem apods_noticeZones (c : Fin 4 → Bool) (s : State) : (noticeZones c s).apods = s.apods :=
  (protects_noticeZones c s).apods

@[simp] theorem apods_noticeRefs (refs : List (Option (Fin 4))) (s : State) : (noticeRefs refs s).apods = s.apods :=
  apods_noticeZones _ s

@[simp] theorem apods_locatedEvent (x : Int) (amp cycle : Nat) (s : State) :
    (locatedEvent x amp cycle s).apods = s.apods := (gathers_locatedEvent x amp cycle s).apods

@[simp] theorem apods_recomputeRefs (s : State) : (recomputeRefs s).apods = s.apods := by
  simp [recomputeRefs_eq, rebound]

@[simp] theorem apods_mergeCracks (lo hi : Fin 32) (x y : Crack) (s : State) :
    (mergeCracks lo hi x y s).apods = s.apods := by
  simp [mergeCracks]

@[simp] theorem apods_portCheck (s : State) : (portCheck s).apods = s.apods := by
  rw [portCheck_eq]

@[simp] theorem apods_settleResponse (n : Nat) (s : State) : (settleResponse n s).apods = s.apods := by
  unfold settleResponse
  simp only
  repeat' split
  all_goals simp

@[simp] theorem apods_takeFrame (sdi : List Byte) (s : State) : (takeFrame sdi s).apods = s.apods := by
  unfold takeFrame
  split <;> rfl

@[simp] theorem apods_selFall (s : State) : (selFall s).apods = s.apods := by
  unfold selFall
  repeat' split
  all_goals simp

@[simp] theorem apods_selRise (sdi : List Bool) (s : State) : (selRise sdi s).apods = s.apods := by
  unfold selRise
  simp only
  repeat' split
  all_goals simp

/-! ## The owners of the requests -/

theorem apods_onRam {f : Fin 8 → State → Response × State} (hf : ∀ r s, (f r s).2.apods = s.apods) (key : Byte)
    (s : State) : (onRam key f s).2.apods = s.apods := by
  unfold onRam
  split
  · exact hf _ s
  · rfl

theorem apods_onGroup {f : Fin 4 → State → Response × State} (hf : ∀ g s, (f g s).2.apods = s.apods) (key : Byte)
    (s : State) : (onGroup key f s).2.apods = s.apods := by
  unfold onGroup
  split
  · exact hf _ s
  · rfl

theorem apods_onCrack {f : Fin 32 → Crack → State → Response × State} (hf : ∀ c y s, (f c y s).2.apods = s.apods)
    (key : Byte) (s : State) : (onCrack key f s).2.apods = s.apods := by
  unfold onCrack
  split
  · split
    · exact hf _ _ s
    · rfl
  · rfl

theorem apods_onLimit {f : Fin 24 → Limit → State → Response × State} (hf : ∀ i l s, (f i l s).2.apods = s.apods)
    (key : Byte) (s : State) : (onLimit key f s).2.apods = s.apods := by
  unfold onLimit
  split
  · split
    · exact hf _ _ s
    · rfl
  · rfl

theorem apods_readRecord (kind key : Byte) (s : State) : (readRecord kind key s).2.apods = s.apods := by
  unfold readRecord
  split <;> rfl

theorem apods_listRecords (start : Option (Byte × Byte)) (s : State) : (listRecords start s).2.apods = s.apods := by
  unfold listRecords
  repeat' split
  all_goals rfl

theorem apods_startRequest (r : Fin 8) (s : State) : (startRequest r s).2.apods = s.apods := by
  unfold startRequest
  split <;> simp

theorem apods_stopRequest (r : Fin 8) (s : State) : (stopRequest r s).2.apods = s.apods := by
  unfold stopRequest
  simp only
  repeat' split
  all_goals simp

theorem apods_clearRequest (r : Fin 8) (s : State) : (clearRequest r s).2.apods = s.apods := by
  unfold clearRequest
  simp only
  split <;> simp

theorem apods_runResumeRequest (g : Fin 4) (s : State) : (runResumeRequest g s).2.apods = s.apods := by
  unfold runResumeRequest runResume
  simp only
  repeat' split
  all_goals simp

theorem apods_runFromStepRequest (form : Byte) (g : Fin 4) (s : State) :
    (runFromStepRequest form g s).2.apods = s.apods := by
  unfold runFromStepRequest
  repeat' split
  all_goals simp [runFromStep]

theorem apods_pauseNowRequest (g : Fin 4) (s : State) : (pauseNowRequest g s).2.apods = s.apods := by
  unfold pauseNowRequest
  split <;> simp

theorem apods_pauseAtCycleEndRequest (g : Fin 4) (s : State) : (pauseAtCycleEndRequest g s).2.apods = s.apods := by
  unfold pauseAtCycleEndRequest
  simp only
  repeat' split
  all_goals simp

theorem apods_unloadRequest (g : Fin 4) (s : State) : (unloadRequest g s).2.apods = s.apods := by
  unfold unloadRequest
  split <;> simp

theorem apods_releaseRequest (g : Fin 4) (s : State) : (releaseRequest g s).2.apods = s.apods := by
  unfold releaseRequest
  simp only
  split <;> simp

theorem apods_ackRequest (c : Fin 32) (y : Crack) (s : State) : (ackRequest c y s).2.apods = s.apods := by
  unfold ackRequest
  split <;> simp

theorem apods_widthRequest (width : BitVec 16) (c : Fin 32) (y : Crack) (s : State) :
    (widthRequest width c y s).2.apods = s.apods := by
  unfold widthRequest
  split <;> simp

theorem apods_retireRequest (c : Fin 32) (y : Crack) (s : State) : (retireRequest c y s).2.apods = s.apods := by
  simp [retireRequest]

theorem apods_mergeRequest (a b : Byte) (s : State) : (mergeRequest a b s).2.apods = s.apods := by
  refine apods_onCrack (fun i x s => apods_onCrack (fun j y s => ?_) b s) a s
  repeat' split
  all_goals simp

theorem apods_limitAckRequest (i : Fin 24) (l : Limit) (s : State) : (limitAckRequest i l s).2.apods = s.apods := by
  unfold limitAckRequest
  split <;> simp

theorem apods_limitRetireRequest (i : Fin 24) (l : Limit) (s : State) :
    (limitRetireRequest i l s).2.apods = s.apods := by
  unfold limitRetireRequest
  simp only
  split <;> simp

/-! ## Writes and RESTART -/

theorem apods_writeGroup (g : Fin 4) (pairs : List (Nat × Int)) (s : State) :
    (writeGroup g pairs s).apods = s.apods := by
  unfold writeGroup
  simp only
  split <;> simp

theorem apods_writeStep (i : Fin 64) (pairs : List (Nat × Int)) (s : State) :
    (writeStep i pairs s).apods = s.apods := by
  unfold writeStep
  simp only
  split <;> simp

theorem apods_writeLimit (i : Fin 24) (pairs : List (Nat × Int)) (s : State) :
    (writeLimit i pairs s).apods = s.apods := by
  unfold writeLimit
  simp only
  repeat' split
  all_goals simp

theorem apods_writeHall (pairs : List (Nat × Int)) (s : State) : (writeHall pairs s).apods = s.apods := by
  unfold writeHall
  simp only
  split <;> rfl

theorem apods_writePlan (pairs : List (Nat × Int)) (s : State) : (writePlan pairs s).apods = s.apods := by
  unfold writePlan
  simp only
  split <;> rfl

theorem apods_writeGauge (k : Fin 48) (pairs : List (Nat × Int)) (s : State) :
    (writeGauge k pairs s).apods = s.apods := by
  rw [show writeGauge k pairs s = _ from hands_writeGauge k pairs s]

/-- A WRITE of any record but an APOD. -/
theorem apods_applyWrite {r : RecordId} (h : ∀ p, r ≠ .apod p) (pairs : List (Nat × Int)) (s : State) :
    (applyWrite r pairs s).apods = s.apods := by
  cases r with
  | apod p => exact absurd rfl (h p)
  | hall => exact apods_writeHall pairs s
  | group g => exact apods_writeGroup g pairs s
  | step i => exact apods_writeStep i pairs s
  | plan => exact apods_writePlan pairs s
  | gauge k => exact apods_writeGauge k pairs s
  | limit i => exact apods_writeLimit i pairs s
  | ram _ | gpod _ | crackset | crack _ => rfl

theorem apods_restartRam (r : Fin 8) (s : State) : (restartRam r s).apods = s.apods := by
  simp [restartRam]

theorem apods_restartLimit (i : Fin 24) (s : State) : (restartLimit i s).apods = s.apods := by
  unfold restartLimit
  simp only
  repeat' split
  all_goals simp

theorem apods_restartRound (s : State) : (restartRound s).apods = s.apods := by
  unfold restartRound
  simp only
  split <;> rfl

/-- The pods as the line master finds them at a RESTART, every block before it having taken it (R180). -/
theorem apods_restartOthers (s : State) :
    (restartRound (forAll restartLimit (forAll restartGroup (forAll restartRam s)))).apods = s.apods := by
  have hgroup (g : Fin 4) (t : State) : (restartGroup g t).apods = t.apods := putGroup_apods _ _ _
  rw [apods_restartRound, apods_forAll apods_restartLimit, apods_forAll hgroup, apods_forAll apods_restartRam]

/-! ## Commands -/

/-- What a state has, and what a command's event makes of it has, the state after the command has. -/
theorem event_next {P : State → Prop} {f : State → State} {s t : State} (hs : P s) (hf : P (f s))
    (h : event f s = .next t) : P t := by
  unfold event at h
  split at h
  · cases h
    exact hs
  · cases h
    exact hf

theorem takeRequest_next {P : State → Prop} (hp : ∀ u p, P u → P { u with port := p }) {c : Instr} {f : State → State}
    {s : State} (hs : P s) (hf : P (f s)) : P (takeRequest c f s) := by
  unfold takeRequest
  split
  · exact hf
  · rw [portCheck_eq]
    exact hp s _ hs

/-- The same of a request, where the port does not matter. -/
theorem request_next {P : State → Prop} (hp : ∀ u p, P u → P { u with port := p }) {c : Instr}
    {body : State → Response × State} {s t : State} (hs : P s) (hb : P (body s).2)
    (h : request c body s = .next t) : P t :=
  event_next hs (takeRequest_next hp hs (hp _ _ hb)) h

/-- The commands of the acoustic line and of the pods' counters. -/
def ofLine : Instr → Bool
  | .podCountersClear _ | .slotOpen _ | .contention | .replyTimeout _ | .replyFrameError | .replyReceived _
  | .quietWaitEnd | .requestPulse _ | .lineStuck | .lineRecovered | .timeFrameEnd | .heldFrameBegin => true
  | _ => false

/-- A command of neither the strain stream nor the acoustic line leaves the pods. -/
theorem exec_apods {c : Instr} {s t : State} (hc : (ofStrain c || ofLine c) = false) (h : exec c s = .next t) :
    t.apods = s.apods := by
  have ev {f : State → State} (hf : (f s).apods = s.apods) (h : event f s = .next t) : t.apods = s.apods :=
    event_next (P := fun u => u.apods = s.apods) rfl hf h
  have req {c : Instr} {body : State → Response × State} (hb : (body s).2.apods = s.apods)
      (h : request c body s = .next t) : t.apods = s.apods :=
    request_next (P := fun u => u.apods = s.apods) (fun _ _ hu => hu) rfl hb h
  cases c with
  | resetAssert =>
    cases h
    rfl
  | pulsePeriodStart => exact ev (f := pulsePeriodStart) rfl h
  | estopAssert =>
    refine ev (f := estopAssert) ?_ h
    unfold estopAssert
    split <;> simp
  | estopRelease => exact ev (f := fun s => { s with hall := { s.hall with estop := .clear } }) rfl h
  | hpuReadyFall =>
    refine ev (f := hpuReadyFall) ?_ h
    unfold hpuReadyFall
    split <;> simp
  | hpuReadyRise => exact ev (f := fun s => { s with hall := { s.hall with hpuReady := .high } }) rfl h
  | selFall => exact ev (apods_selFall s) h
  | selRise sdi => exact ev (apods_selRise sdi s) h
  | identify => exact req (by rfl) h
  | read kind key => exact req (apods_readRecord kind key s) h
  | listChanged start => exact req (apods_listRecords start s) h
  | groupRunResume group => exact req (apods_onGroup apods_runResumeRequest group s) h
  | groupRunFromStep group form => exact req (apods_onGroup (apods_runFromStepRequest form) group s) h
  | groupPauseNow group => exact req (apods_onGroup apods_pauseNowRequest group s) h
  | groupPauseAtCycleEnd group => exact req (apods_onGroup apods_pauseAtCycleEndRequest group s) h
  | groupUnload group => exact req (apods_onGroup apods_unloadRequest group s) h
  | groupRelease group => exact req (apods_onGroup apods_releaseRequest group s) h
  | ramStart ram => exact req (apods_onRam apods_startRequest ram s) h
  | ramStop ram => exact req (apods_onRam apods_stopRequest ram s) h
  | ramClear ram => exact req (apods_onRam apods_clearRequest ram s) h
  | findCrack x => exact req (body := findRequest x) (by rw [RamsMove.findRequest]) h
  | crackAck slot => exact req (apods_onCrack apods_ackRequest slot s) h
  | crackWidth slot width => exact req (apods_onCrack (apods_widthRequest width) slot s) h
  | crackRetire slot => exact req (apods_onCrack apods_retireRequest slot s) h
  | crackMerge a b => exact req (apods_mergeRequest a b s) h
  | limitAck slot => exact req (apods_onLimit apods_limitAckRequest slot s) h
  | limitRetire slot => exact req (apods_onLimit apods_limitRetireRequest slot s) h
  | timeFrameDue => exact ev (f := timeFrameDue) rfl h
  | _ => cases hc

end Sys2Proof.Machine
end

section
/-! What PodLaw and HitLaw say of one APOD record, and that the locator and the acoustic line keep it. -/

namespace Sys2Proof.Machine

/-! ## One record -/

/-- The hits that a pod holds in its slot (R111). -/
def APod.held (a : APod) : Nat := if a.slot.isSome then 1 else 0

theorem APod.held_some {a : APod} {h : Hit} (hs : a.slot = some h) : a.held = 1 := by simp [held, hs]

theorem APod.held_none {a : APod} (hs : a.slot = none) : a.held = 0 := by simp [held, hs]

/-- The hit accounts of a pod while none of its counts has saturated, with owed hits counted accepted and not yet
paired, counted unpaired or held (R111). -/
def APod.Balanced (owed : Nat) (a : APod) : Prop :=
  a.received < max32 → a.belowAmp < max32 → a.accepted < max32 → a.paired < max32 → a.unpaired < max32 →
    a.accepted = a.paired + a.unpaired + a.held + owed ∧ a.received = a.accepted + a.belowAmp

/-- What PodLaw and HitLaw say of one record (R102, R106, R111, R121), while it owes hits. -/
structure APod.Lawful (owed : Nat) (a : APod) : Prop where
  disabled : a.enabled = false ↔ a.state = .disabled
  empty : a.enabled = false → a.slot = none ∧ a.consecutiveFails = 0
  lost : a.state = .lost ↔ 8 ≤ a.consecutiveFails
  balanced : a.Balanced owed

/-- A saturating counter that reads below its top has counted. -/
theorem satInc_lt {top n : Nat} (h : satInc top n < top) : satInc top n = n + 1 ∧ n < top := by
  unfold satInc at *
  split_ifs at * with hn
  · exact ⟨rfl, hn⟩
  · exact absurd h hn

theorem le_satInc (top n : Nat) : n ≤ satInc top n := by
  unfold satInc
  split <;> omega

/-- A hit arrives and passes the amplitude filter (R112). -/
def APod.accepting (a : APod) : APod :=
  { a with received := satInc max32 a.received, accepted := satInc max32 a.accepted }

/-- The arriving hit leaves the locator with its partner (R116). -/
def APod.pairing (a : APod) : APod := { a with paired := satInc max32 a.paired }

/-- The slot hit leaves the locator with its partner (R116). -/
def APod.slotPaired (a : APod) : APod := { a with paired := satInc max32 a.paired, slot := none }

namespace APod.Lawful

variable {n : Nat} {a : APod}

/-- A change of counts, the slot left as it is or cleared. -/
theorem of_counts {m : Nat} {b : APod} (h : a.Lawful n) (he : b.enabled = a.enabled) (hst : b.state = a.state)
    (hf : b.consecutiveFails = a.consecutiveFails) (hs : b.slot = a.slot ∨ b.slot = none) (hb : b.Balanced m) :
    b.Lawful m := by
  refine ⟨by rw [he, hst]; exact h.disabled, fun hd => ?_, by rw [hst, hf]; exact h.lost, hb⟩
  obtain ⟨hslot, hfails⟩ := h.empty (he ▸ hd)
  exact ⟨hs.elim (fun e => e.trans hslot) id, hf.trans hfails⟩

/-- A hit below the amplitude filter (R112). -/
theorem belowAmp (h : a.Lawful n) :
    ({ a with received := satInc max32 a.received, belowAmp := satInc max32 a.belowAmp } : APod).Lawful n := by
  refine h.of_counts rfl rfl rfl (.inl rfl) fun hr hb ha hp hu => ?_
  obtain ⟨er, hr⟩ := satInc_lt hr
  obtain ⟨eb, hb⟩ := satInc_lt hb
  obtain ⟨hacc, hrec⟩ := h.balanced hr hb ha hp hu
  refine ⟨hacc, ?_⟩
  change satInc max32 a.received = a.accepted + satInc max32 a.belowAmp
  omega

/-- A hit past the amplitude filter is owed until the locator has dealt with it (R112). -/
theorem accept (h : a.Lawful n) : a.accepting.Lawful (n + 1) := by
  refine h.of_counts rfl rfl rfl (.inl rfl) fun hr hb ha hp hu => ?_
  obtain ⟨er, hr⟩ := satInc_lt hr
  obtain ⟨ea, ha⟩ := satInc_lt ha
  obtain ⟨hacc, hrec⟩ := h.balanced hr hb ha hp hu
  change satInc max32 a.accepted = a.paired + a.unpaired + a.held + (n + 1) ∧
    satInc max32 a.received = satInc max32 a.accepted + a.belowAmp
  omega

/-- An owed hit that is too old (R113). -/
theorem unpair (h : a.Lawful (n + 1)) : ({ a with unpaired := satInc max32 a.unpaired } : APod).Lawful n := by
  refine h.of_counts rfl rfl rfl (.inl rfl) fun hr hb ha hp hu => ?_
  obtain ⟨eu, hu⟩ := satInc_lt hu
  obtain ⟨hacc, hrec⟩ := h.balanced hr hb ha hp hu
  refine ⟨?_, hrec⟩
  change a.accepted = a.paired + satInc max32 a.unpaired + a.held + n
  omega

/-- An owed hit that has found its partner (R116). -/
theorem pair (h : a.Lawful (n + 1)) : a.pairing.Lawful n := by
  refine h.of_counts rfl rfl rfl (.inl rfl) fun hr hb ha hp hu => ?_
  obtain ⟨ep, hp⟩ := satInc_lt hp
  obtain ⟨hacc, hrec⟩ := h.balanced hr hb ha hp hu
  refine ⟨?_, hrec⟩
  change a.accepted = satInc max32 a.paired + a.unpaired + a.held + n
  omega

/-- The slot hit that is the partner (R116). -/
theorem partner {h : Hit} (hl : a.Lawful n) (hs : a.slot = some h) : a.slotPaired.Lawful n := by
  refine hl.of_counts rfl rfl rfl (.inr rfl) fun hr hb ha hp hu => ?_
  obtain ⟨ep, hp⟩ := satInc_lt hp
  obtain ⟨hacc, hrec⟩ := hl.balanced hr hb ha hp hu
  rw [APod.held_some hs] at hacc
  refine ⟨?_, hrec⟩
  change a.accepted = satInc max32 a.paired + a.unpaired + 0 + n
  omega

/-- A slot hit that leaves without a partner (R115, R120, R121). -/
theorem dropSlot {h : Hit} (hl : a.Lawful n) (hs : a.slot = some h) : a.dropSlot.Lawful n := by
  refine hl.of_counts rfl rfl rfl (.inr rfl) fun hr hb ha hp hu => ?_
  obtain ⟨eu, hu⟩ := satInc_lt hu
  obtain ⟨hacc, hrec⟩ := hl.balanced hr hb ha hp hu
  rw [APod.held_some hs] at hacc
  refine ⟨?_, hrec⟩
  change a.accepted = a.paired + satInc max32 a.unpaired + 0 + n
  omega

/-- An owed hit takes the empty slot of its own pod (R117). -/
theorem hold (hl : a.Lawful (n + 1)) (he : a.enabled = true) (hs : a.slot = none) (h : Hit) :
    ({ a with slot := some h } : APod).Lawful n := by
  refine ⟨hl.disabled, by simp [he], hl.lost, fun hr hb ha hp hu => ?_⟩
  obtain ⟨hacc, hrec⟩ := hl.balanced hr hb ha hp hu
  rw [APod.held_none hs] at hacc
  refine ⟨?_, hrec⟩
  change a.accepted = a.paired + a.unpaired + 1 + n
  omega

theorem overflow (h : a.Lawful n) (k : Nat) : ({ a with podOverflows := k } : APod).Lawful n :=
  ⟨h.disabled, h.empty, h.lost, h.balanced⟩

/-- A failed poll: LOST at eight failures in a row (R102). -/
theorem fail (h : a.Lawful n) (he : a.enabled = true) (o : PollOutcome) (k : Nat) :
    ({ a with
        consecutiveFails := satInc 255 a.consecutiveFails
        state := if 8 ≤ satInc 255 a.consecutiveFails then .lost else a.state
        lastOutcome := o
        frameErrors := k } : APod).Lawful n := by
  have hle := le_satInc 255 a.consecutiveFails
  have hd : a.state ≠ .disabled := fun e => by simp [h.disabled.mpr e] at he
  refine ⟨?_, by simp [he], ?_, h.balanced⟩
  · simp only [he, Bool.true_eq_false, false_iff]
    split
    · simp
    · exact hd
  · simp only
    split
    · simpa
    next hn => exact ⟨fun e => absurd (h.lost.mp e) (by omega), fun e => absurd e hn⟩

/-- A counted poll of an enabled pod (R102). -/
theorem polled (h : a.Lawful n) (he : a.enabled = true) (o : PollOutcome) : (a.polled o).Lawful n := by
  cases o with
  | none => exact h
  | good => exact ⟨by simp [APod.polled, he], by simp [APod.polled, he], by simp [APod.polled], h.balanced⟩
  | silent => exact h.fail he _ _
  | gap => exact h.fail he _ _
  | frameError => exact h.fail he _ _
  | badCheck => exact h.fail he _ _
  | contention => exact h.fail he _ _

/-- A waiting slot hit is carried into the cleared counters (R122). -/
theorem clearCounters (h : a.Lawful n) : a.clearCounters.Lawful 0 :=
  h.of_counts rfl rfl rfl (.inl rfl) fun _ _ _ _ _ => by
    cases hs : a.slot <;> simp [APod.clearCounters, APod.held, hs]

/-- A pod enabled again starts with no failure (R106). -/
theorem enable (h : a.Lawful n) : a.enable.Lawful n :=
  ⟨by simp [APod.enable], by simp [APod.enable], by simp [APod.enable], h.balanced⟩

/-- A pod disabled, its slot empty (R106, R121). -/
theorem disable (h : a.Lawful n) (hs : a.slot = none) : a.disable.Lawful n :=
  ⟨by simp [APod.disable], by simp [APod.disable, hs], by simp [APod.disable], h.balanced⟩

/-- The law does not name the position, the one field that a WRITE sets but enabled (Table 6-2). -/
theorem putAll (h : a.Lawful n) (pairs : List (Nat × Int)) : (putAll APod.put pairs a).Lawful n := by
  refine putAll_invariant (fun p _ y hy => ?_) h
  unfold APod.put
  split
  · exact ⟨hy.disabled, hy.empty, hy.lost, hy.balanced⟩
  · exact hy

end APod.Lawful

/-! ## All pods -/

/-- Every APOD record is lawful, with the hits that it owes. -/
def Owes (owed : Fin 16 → Nat) (s : State) : Prop := ∀ p : Fin 16, (s.apods[p]).Lawful (owed p)

/-- No position is shared by two enabled pods (R106). -/
def Apart (s : State) : Prop :=
  ∀ p q : Fin 16, p ≠ q → s.apods[p].enabled = true → s.apods[q].enabled = true →
    s.apods[p].positionMm ≠ s.apods[q].positionMm

/-- The laws of the pods and of their hits. -/
abbrev PodLaws (s : State) : Prop := PodLaw s ∧ HitLaw s

theorem podLaws_iff (s : State) : PodLaws s ↔ Owes 0 s ∧ Apart s := by
  constructor
  · rintro ⟨⟨hp, hapart⟩, hh⟩
    refine ⟨fun p => ?_, hapart⟩
    obtain ⟨hd, he, hl⟩ := hp p
    exact ⟨hd, he, hl, hh p⟩
  · rintro ⟨ho, hapart⟩
    exact ⟨⟨fun p => ⟨(ho p).disabled, (ho p).empty, (ho p).lost⟩, hapart⟩, fun p => (ho p).balanced⟩

/-- One pod is replaced by a record that owes m hits. -/
theorem owes_setAPod {owed : Fin 16 → Nat} {p : Fin 16} {x : APod} {s : State} {m : Nat} (h : Owes owed s)
    (hx : x.Lawful m) : Owes (Function.update owed p m) (setAPod p x s) := by
  intro q
  rw [show (setAPod p x s).apods = s.apods.set p x from rfl, getElem_set_fin, Function.update_apply]
  by_cases hq : p = q
  · rwa [if_pos hq, if_pos hq.symm]
  · rw [if_neg hq, if_neg (Ne.symm hq)]
    exact h q

/-- From s to t every pod keeps its place: whether it is enabled, and where it stands (R106). -/
structure Places (s t : State) : Prop where
  enabled : ∀ p : Fin 16, t.apods[p].enabled = s.apods[p].enabled
  position : ∀ p : Fin 16, t.apods[p].positionMm = s.apods[p].positionMm

theorem Places.trans {a b c : State} (h : Places a b) (k : Places b c) : Places a c :=
  ⟨fun p => (k.enabled p).trans (h.enabled p), fun p => (k.position p).trans (h.position p)⟩

theorem Places.apart {s t : State} (h : Places s t) (ha : Apart s) : Apart t := by
  intro p q hpq hp hq
  rw [h.enabled] at hp hq
  rw [h.position, h.position]
  exact ha p q hpq hp hq

theorem apod_setAPod (p q : Fin 16) (x : APod) (s : State) :
    (setAPod p x s).apods[q] = if p = q then x else s.apods[q] := getElem_set_fin _ _ _ _

theorem places_setAPod {p : Fin 16} {x : APod} {s : State} (he : x.enabled = s.apods[p].enabled)
    (hp : x.positionMm = s.apods[p].positionMm) : Places s (setAPod p x s) := by
  refine ⟨fun q => ?_, fun q => ?_⟩
  · rw [apod_setAPod]
    split
    next h => exact h ▸ he
    · rfl
  · rw [apod_setAPod]
    split
    next h => exact h ▸ hp
    · rfl

/-- From s to t every pod keeps its place and its law, and owes the hits that it owed. -/
structure PodsKeep (s t : State) : Prop extends Places s t where
  owes : ∀ owed, Owes owed s → Owes owed t

/-- From s to t every pod keeps its place and its law, and pod p has dealt with one hit that it owed. -/
structure Settles (p : Fin 16) (s t : State) : Prop extends Places s t where
  owes : ∀ owed, Owes (Function.update owed p (owed p + 1)) s → Owes owed t

namespace PodsKeep

theorem of_eq {s t : State} (h : t.apods = s.apods) : PodsKeep s t :=
  ⟨⟨fun p => by rw [h], fun p => by rw [h]⟩, fun owed ho p => by rw [h]; exact ho p⟩

theorem refl (s : State) : PodsKeep s s := of_eq rfl

theorem trans {a b c : State} (h : PodsKeep a b) (k : PodsKeep b c) : PodsKeep a c :=
  ⟨h.toPlaces.trans k.toPlaces, fun owed ho => k.owes owed (h.owes owed ho)⟩

theorem forAll {n : Nat} {f : Fin n → State → State} (h : ∀ i t, PodsKeep t (f i t)) (s : State) :
    PodsKeep s (forAll f s) :=
  forAll_relation refl (fun _ _ _ => trans) h s

theorem podLaws {s t : State} (h : PodsKeep s t) (hl : PodLaws s) : PodLaws t := by
  obtain ⟨ho, ha⟩ := (podLaws_iff s).mp hl
  exact (podLaws_iff t).mpr ⟨h.owes _ ho, h.apart ha⟩

/-- One pod keeps its place and its law. -/
theorem setAPod {p : Fin 16} {x : APod} {s : State} (he : x.enabled = s.apods[p].enabled)
    (hp : x.positionMm = s.apods[p].positionMm) (hx : ∀ n, (s.apods[p]).Lawful n → x.Lawful n) :
    PodsKeep s (setAPod p x s) := by
  refine ⟨places_setAPod he hp, fun owed ho => ?_⟩
  have h := owes_setAPod (p := p) ho (hx _ (ho p))
  rwa [Function.update_eq_self] at h

/-- The mark of an APOD does not touch the records (R108). -/
theorem putAPod {p : Fin 16} {x : APod} {s : State} (he : x.enabled = s.apods[p].enabled)
    (hp : x.positionMm = s.apods[p].positionMm) (hx : ∀ n, (s.apods[p]).Lawful n → x.Lawful n) :
    PodsKeep s (putAPod p x s) :=
  (setAPod he hp hx).trans (of_eq (markIf_apods _ _ _))

/-! ## The locator -/

theorem dropSlot {p : Fin 16} {h : Hit} {s : State} (hs : s.apods[p].slot = some h) :
    PodsKeep s (Machine.setAPod p s.apods[p].dropSlot s) :=
  setAPod rfl rfl fun _ hl => hl.dropSlot hs

theorem expireSlot (p : Fin 16) (s : State) : PodsKeep s (expireSlot p s) := by
  unfold Machine.expireSlot
  split
  next hs =>
    split
    · exact dropSlot hs
    · exact refl s
  · exact refl s

theorem clearSlot (p : Fin 16) (s : State) : PodsKeep s (clearSlot p s) := by
  unfold Machine.clearSlot
  split
  next hs => exact dropSlot hs
  · exact refl s

theorem frameEndNotice (s : State) : PodsKeep s (frameEndNotice s) := forAll expireSlot s

/-- The neighbour of an arriving hit's pod, where it has one, is examined for its age (R115). -/
theorem expireNeighbour (q : Option (Fin 16)) (s : State) :
    PodsKeep s ((q.map fun q => Machine.expireSlot q s).getD s) := by
  cases q with
  | none => exact refl s
  | some q => exact expireSlot q s

end PodsKeep

/-! ## A hit arrival (R112 to R119) -/

theorem slot_clearSlot (p : Fin 16) (s : State) : (clearSlot p s).apods[p].slot = none := by
  unfold clearSlot
  split
  · rw [apod_setAPod, if_pos rfl]
    rfl
  next h => exact h

/-- What the locator does with a hit that it has accepted and that is not too old: the neighbours' slots are examined,
and the hit pairs with one of them or is held (R114 to R117). -/
def dealWith (p : Fin 16) (h : Hit) (s : State) : State :=
  let lower := lowerNeighbour p s
  let upper := upperNeighbour p s
  let t := (lower.map fun q => expireSlot q s).getD s
  let t := (upper.map fun q => expireSlot q t).getD t
  match choosePartner p h.time lower upper t with
  | none => holdHit p h.time h.amp t
  | some q =>
    match t.apods[q].slot with
    | some k => pairHits p q h.time h.amp k t
    | none => holdHit p h.time h.amp t

theorem hitArrival_eq (p : Fin 16) (h : Hit) (s : State) :
    hitArrival p h s =
      if h.amp < s.crackset.minAmpDb then
        setAPod p
          { s.apods[p] with
            received := satInc max32 s.apods[p].received, belowAmp := satInc max32 s.apods[p].belowAmp } s
      else if tooOld h.time s then
        setAPod p { s.apods[p].accepting with unpaired := satInc max32 s.apods[p].unpaired } s
      else dealWith p h (setAPod p s.apods[p].accepting s) := rfl

namespace Settles

variable {p : Fin 16}

/-- What is done before, and after, a hit is dealt with. -/
theorem after {a b c : State} (h : PodsKeep a b) (k : Settles p b c) : Settles p a c :=
  ⟨h.toPlaces.trans k.toPlaces, fun owed ho => k.owes owed (h.owes _ ho)⟩

theorem before {a b c : State} (h : Settles p a b) (k : PodsKeep b c) : Settles p a c :=
  ⟨h.toPlaces.trans k.toPlaces, fun owed ho => k.owes owed (h.owes owed ho)⟩

theorem setAPod {x : APod} {s : State} (he : x.enabled = s.apods[p].enabled)
    (hp : x.positionMm = s.apods[p].positionMm) (hx : ∀ n, (s.apods[p]).Lawful (n + 1) → x.Lawful n) :
    Settles p s (setAPod p x s) := by
  refine ⟨places_setAPod he hp, fun owed ho => ?_⟩
  have hn := ho p
  rw [Function.update_self] at hn
  have h := owes_setAPod (p := p) ho (hx _ hn)
  rwa [Function.update_idem, Function.update_eq_self] at h

/-- The owed hit is held in its own pod's slot (R117). -/
theorem holdHit {s : State} (he : s.apods[p].enabled = true) (t : Word) (amp : Nat) :
    Settles p s (holdHit p t amp s) := by
  have hc := PodsKeep.clearSlot p s
  exact after hc (setAPod rfl rfl fun n hl => hl.hold ((hc.enabled p).trans he) (slot_clearSlot p s) _)

/-- The owed hit pairs with a slot hit, and both leave the locator (R116, R118). -/
theorem pairHits {q : Fin 16} {h : Hit} {s : State} (hs : s.apods[q].slot = some h) (t : Word) (amp : Nat) :
    Settles p s (pairHits p q t amp h s) := by
  have hown : Settles p s (Machine.setAPod p s.apods[p].pairing s) := setAPod rfl rfl fun n hl => hl.pair
  have hslot : (Machine.setAPod p s.apods[p].pairing s).apods[q].slot = some h := by
    rw [apod_setAPod]
    split
    next hpq => exact hpq ▸ hs
    · exact hs
  refine (hown.before (.setAPod (p := q) (x := APod.slotPaired _) rfl rfl fun n hl => hl.partner hslot)).before ?_
  exact .of_eq (apods_locatedEvent _ _ _ _)

/-- The owed hit is dealt with (R114 to R117). -/
theorem dealWith {s : State} (he : s.apods[p].enabled = true) (h : Hit) : Settles p s (dealWith p h s) := by
  have hk := (PodsKeep.expireNeighbour (lowerNeighbour p s) s).trans (.expireNeighbour (upperNeighbour p s) _)
  have het := (hk.enabled p).trans he
  unfold Machine.dealWith
  simp only
  split
  · exact after hk (holdHit het _ _)
  · split
    next hs => exact after hk (pairHits hs _ _)
    · exact after hk (holdHit het _ _)

end Settles

namespace PodsKeep

/-- One hit arrival of an enabled pod (R112 to R117). -/
theorem hitArrival {p : Fin 16} {s : State} (he : s.apods[p].enabled = true) (h : Hit) :
    PodsKeep s (hitArrival p h s) := by
  rw [hitArrival_eq]
  split
  · exact setAPod rfl rfl fun n hl => hl.belowAmp
  · split
    · exact setAPod rfl rfl fun n hl => hl.accept.unpair
    · have ha : Places s (Machine.setAPod p s.apods[p].accepting s) := places_setAPod rfl rfl
      have hd := Settles.dealWith ((ha.enabled p).trans he) h
      exact ⟨ha.trans hd.toPlaces, fun owed ho => hd.owes owed (owes_setAPod ho (ho p).accept)⟩

theorem hitArrivals {p : Fin 16} (hs : List Hit) {s : State} (he : s.apods[p].enabled = true) :
    PodsKeep s (hs.foldl (fun u h => Machine.hitArrival p h u) s) := by
  induction hs generalizing s with
  | nil => exact refl s
  | cons h hs ih =>
    have ha := hitArrival he h
    exact ha.trans (ih ((ha.enabled p).trans he))

/-! ## The acoustic line -/

theorem setLine (x : Line) (s : State) : PodsKeep s (setLine x s) := of_eq rfl

theorem passTo (c : Nat) (s : State) : PodsKeep s (passTo c s) := of_eq rfl

theorem frameEnd (began : Nat) (s : State) : PodsKeep s (frameEnd began s) :=
  (setLine _ _).trans (frameEndNotice _)

theorem openPollSlot (dominant : Bool) (s : State) : PodsKeep s (openPollSlot dominant s) := by
  unfold Machine.openPollSlot
  simp only
  split
  · split <;> exact of_eq rfl
  · exact (setLine _ _).trans (frameEnd _ _)

theorem openSlot (dominant : Bool) (s : State) : PodsKeep s (openSlot dominant s) := by
  unfold Machine.openSlot
  split
  · split <;> exact of_eq rfl
  · exact openPollSlot dominant s

theorem beginHeld (f : HeldFrame) (s : State) : PodsKeep s (beginHeld f s) := by
  unfold Machine.beginHeld
  split
  · exact of_eq rfl
  · split
    · exact of_eq rfl
    · exact (setLine _ _).trans (openPollSlot _ _)
  · exact openPollSlot _ _

theorem pollOutcome (p : Fin 16) (counted : Bool) (o : PollOutcome) (s : State) :
    PodsKeep s (pollOutcome p counted o s) := by
  unfold Machine.pollOutcome
  split
  next h =>
    obtain ⟨-, he⟩ := Bool.and_eq_true_iff.mp h
    exact putAPod (by cases o <;> rfl) (by cases o <;> rfl) fun n hl => hl.polled he o
  · exact refl s

/-- A GOOD reply of an enabled pod: the poll, the overflow flag and the hits (R100). -/
theorem goodReply {p : Fin 16} {s : State} (he : s.apods[p].enabled = true) (reply : List Byte) :
    PodsKeep s (goodReply p reply s) := by
  have hp := pollOutcome p true .good s
  unfold Machine.goodReply
  simp only
  split
  · have ho := hp.trans (setAPod (p := p)
      (x := { (Machine.pollOutcome p true .good s).apods[p] with
        podOverflows := satInc max32 (Machine.pollOutcome p true .good s).apods[p].podOverflows })
      rfl rfl fun n hl => hl.overflow _)
    exact ho.trans (hitArrivals _ ((ho.enabled p).trans he))
  · exact hp.trans (hitArrivals _ ((hp.enabled p).trans he))

theorem takeReply (p : Fin 16) (began : Nat) (counted : Bool) (reply : List Byte) (s : State) :
    PodsKeep s (takeReply p began counted reply s) := by
  unfold Machine.takeReply
  split
  · split
    next h => exact (goodReply (Bool.and_eq_true_iff.mp h).2 reply).trans (frameEnd _ _)
    · exact frameEnd _ _
  · exact (pollOutcome _ _ _ _).trans (setLine _ _)

theorem setLineState (x : LineState) (s : State) : PodsKeep s (setLineState x s) :=
  of_eq (by simp [Machine.setLineState])

theorem enterStuck (s : State) : PodsKeep s (enterStuck s) := by
  unfold Machine.enterStuck
  simp only
  split
  iterate 3 exact ((setLineState _ _).trans (setLine _ _)).trans (frameEndNotice _)
  all_goals exact (setLineState _ _).trans (setLine _ _)

/-- A RESTART clears the slots (R121). -/
theorem restartLine (s : State) : PodsKeep s (restartLine s) := by
  unfold Machine.restartLine
  exact (setLine _ _).trans (forAll clearSlot _)

theorem restartBlocks (s : State) : PodsKeep s (restartBlocks s) :=
  (of_eq (apods_restartOthers s)).trans (restartLine _)

/-! ## The commands of the acoustic line -/

theorem slotOpen (dominant : Bool) (s : State) : PodsKeep s (slotOpen dominant s) := by
  unfold Machine.slotOpen
  simp only
  split
  · exact refl s
  · split
    · exact (passTo _ _).trans (openSlot _ _)
    · exact ((passTo _ _).trans (setLine _ _)).trans (openSlot _ _)
    all_goals exact refl s

theorem contention (s : State) : PodsKeep s (contention s) := by
  have hc (t : State) : PodsKeep t (countContention t) := of_eq rfl
  unfold Machine.contention
  split
  · split
    · exact (((passTo _ _).trans (hc _)).trans (pollOutcome _ _ _ _)).trans (setLine _ _)
    · exact refl s
  · split
    · exact of_eq rfl
    · exact refl s
  all_goals exact refl s

theorem replyFails (p : Fin 16) (began : Nat) (counted : Bool) (n : Nat) (s : State) :
    PodsKeep s (replyFails p began counted n s) :=
  ((passTo _ _).trans (pollOutcome _ _ _ _)).trans (setLine _ _)

theorem replyTimeout (falls : List LineFall) (s : State) : PodsKeep s (replyTimeout falls s) := by
  unfold Machine.replyTimeout
  split
  · split
    iterate 2 exact ((passTo _ _).trans (pollOutcome _ _ _ _)).trans (frameEnd _ _)
    · exact replyFails _ _ _ _ _
    · exact refl s
  all_goals exact refl s

theorem replyFrameError (s : State) : PodsKeep s (replyFrameError s) := by
  unfold Machine.replyFrameError
  split
  · exact replyFails _ _ _ _ _
  all_goals exact refl s

theorem replyReceived (falls : List LineFall) (s : State) : PodsKeep s (replyReceived falls s) := by
  unfold Machine.replyReceived
  split
  · split
    · exact (passTo _ _).trans (takeReply _ _ _ _ _)
    · exact replyFails _ _ _ _ _
    · exact refl s
  all_goals exact refl s

theorem quietWaitEnd (s : State) : PodsKeep s (quietWaitEnd s) := by
  unfold Machine.quietWaitEnd
  split
  · exact (passTo _ _).trans (frameEnd _ _)
  all_goals exact refl s

theorem requestPulse (n : Nat) (s : State) : PodsKeep s (requestPulse n s) := by
  unfold Machine.requestPulse requestSweep
  split
  · split
    · exact refl s
    · split <;> exact of_eq rfl
  · exact refl s

theorem lineRecovered (s : State) : PodsKeep s (lineRecovered s) := by
  unfold Machine.lineRecovered
  simp only
  split
  · exact (((passTo _ _).trans (setLineState _ _)).trans (setLine _ _)).trans (openSlot _ _)
  · exact refl s

theorem timeFrameEnd (s : State) : PodsKeep s (timeFrameEnd s) := by
  unfold Machine.timeFrameEnd
  split
  · exact (passTo _ _).trans (frameEnd _ _)
  all_goals exact refl s

theorem heldFrameBegin (s : State) : PodsKeep s (heldFrameBegin s) := by
  unfold Machine.heldFrameBegin
  split
  · exact beginHeld _ _
  all_goals exact refl s

end PodsKeep

/-- Cleared counters carry a waiting slot hit, of one pod or of all (R122). -/
theorem podLaws_podCountersRequest {s : State} (hl : PodLaws s) (sel : Byte) :
    PodLaws (podCountersRequest sel s).2 := by
  obtain ⟨ho, ha⟩ := (podLaws_iff s).mp hl
  unfold podCountersRequest
  simp only
  split
  next h =>
    have hp := owes_setAPod (p := ⟨sel.toNat, h⟩) ho (ho ⟨sel.toNat, h⟩).clearCounters
    rw [show (0 : Nat) = (0 : Fin 16 → Nat) ⟨sel.toNat, h⟩ from rfl, Function.update_eq_self] at hp
    exact (podLaws_iff _).mpr ⟨hp, (places_setAPod (x := APod.clearCounters _) rfl rfl).apart ha⟩
  · split
    · have hq (q : Fin 16) : (mapBank (fun _ a => a.clearCounters) s.apods)[q] = (s.apods[q]).clearCounters :=
        mapBank_getElem _ _ _ _
      refine (podLaws_iff _).mpr ⟨fun q => ?_, Places.apart (s := s) ⟨fun q => ?_, fun q => ?_⟩ ha⟩
      · rw [hq]
        exact (ho q).clearCounters
      · rw [hq]
        rfl
      · rw [hq]
        rfl
    · exact hl

end Sys2Proof.Machine
end

section
/-! The writes of a GAUGE and of an APOD record, and the statement that every step keeps the laws of both. -/

namespace Sys2Proof.Machine

/-! ## The write of a GAUGE record (R79) -/

theorem Measures.putGauge {k : Fin 48} {x : Gauge} {s : State} (hx : (s.gauges[k]).Lawful → x.Lawful) :
    Measures s (putGauge k x s) := by
  refine ⟨fun j h => ?_, ?_⟩
  · rw [gauge_putGauge]
    split
    next hj => exact hx (hj ▸ h)
    · exact h
  · rw [show Machine.putGauge k x s = _ from hands_putGauge k x s]

theorem Measures.writeGauge (k : Fin 48) (pairs : List (Nat × Int)) (s : State) :
    Measures s (writeGauge k pairs s) := by
  have hg (t : State) (v : Vector GPod 12) : Measures t { t with gpods := v } := of_eq rfl rfl
  unfold Machine.writeGauge
  simp only
  split
  · split
    · refine putGauge fun h => ?_
      split
      · exact h.putAll pairs
      · exact .enable _
    · split
      · have hd : Measures s (Machine.putGauge k (Machine.putAll Gauge.put pairs s.gauges[k]).disable s) :=
          putGauge fun _ => .disable _
        split
        · exact hd
        · exact hd.trans (hg _ _)
      · exact putGauge fun h => h.putAll pairs
  · exact putGauge fun h => h.putAll pairs

/-! ## The write of an APOD record (R106) -/

theorem enabled_putAPods (pairs : List (Nat × Int)) (a : APod) : (putAll APod.put pairs a).enabled = a.enabled :=
  putAll_invariant (P := fun b : APod => b.enabled = a.enabled)
    (fun p _ y hy => by unfold APod.put; split <;> exact hy) rfl

theorem slot_putAPods (pairs : List (Nat × Int)) (a : APod) : (putAll APod.put pairs a).slot = a.slot :=
  putAll_invariant (P := fun b : APod => b.slot = a.slot) (fun p _ y hy => by unfold APod.put; split <;> exact hy) rfl

/-- The laws hold of a state in which one pod has been replaced by a lawful record that stands alone. -/
theorem podLaws_of_set {p : Fin 16} {x : APod} {s t : State} (hl : PodLaws s) (ht : t.apods = s.apods.set p x)
    (hx : x.Lawful 0)
    (hfree : x.enabled = true →
      ∀ q : Fin 16, q ≠ p → s.apods[q].enabled = true → s.apods[q].positionMm ≠ x.positionMm) :
    PodLaws t := by
  obtain ⟨ho, ha⟩ := (podLaws_iff s).mp hl
  have hq (q : Fin 16) : t.apods[q] = if p = q then x else s.apods[q] := by rw [ht, getElem_set_fin]
  refine (podLaws_iff t).mpr ⟨fun q => ?_, fun q r hqr heq her => ?_⟩
  · rw [hq]
    split
    · exact hx
    · exact ho q
  · rw [hq] at heq her ⊢
    rw [hq]
    split_ifs at heq her ⊢ with hpq hpr hpr
    · exact absurd (hpq.symm.trans hpr) hqr
    · exact (hfree heq r (fun e => hpr e.symm) her).symm
    · exact hfree her q (fun e => hpq e.symm) heq
    · exact ha q r hqr heq her

/-- A pod that the WRITE leaves enabled stands alone at its position (R106). -/
theorem free_of_positionFree {p : Fin 16} {pairs : List (Nat × Int)} {s : State} (h : positionFree p pairs s = true)
    (he : carried 1 pairs = some 1 ∨ carried 1 pairs = none ∧ s.apods[p].enabled = true) (q : Fin 16) (hq : q ≠ p)
    (heq : s.apods[q].enabled = true) : s.apods[q].positionMm ≠ (putAll APod.put pairs s.apods[p]).positionMm := by
  have hall : ∀ q : Fin 16, (q == p || !s.apods[q].enabled ||
      s.apods[q].positionMm != (putAll APod.put pairs s.apods[p]).positionMm) = true := by
    rcases he with hc | ⟨hc, he⟩
    · simpa only [positionFree, hc, beq_self_eq_true, Bool.not_true, Bool.false_or, List.all_eq_true,
        List.mem_finRange, forall_true_left] using h
    · simpa only [positionFree, hc, he, Bool.not_true, Bool.false_or, List.all_eq_true, List.mem_finRange,
        forall_true_left] using h
  have h := hall q
  rw [heq] at h
  simpa [hq] using h

/-- A disabled pod, its slot cleared, stands in the state that the WRITE leaves (R106, R121). -/
theorem podLaws_disable {p : Fin 16} {pairs : List (Nat × Int)} {s : State} (hl : PodLaws s) :
    PodLaws (clearSlot p (uncountPoll p (putAPod p (putAll APod.put pairs s.apods[p]).disable s))) := by
  obtain ⟨ho, -⟩ := (podLaws_iff s).mp hl
  have hx := (ho p).putAll pairs
  generalize putAll APod.put pairs s.apods[p] = x at hx
  have hu : (uncountPoll p (putAPod p x.disable s)).apods = s.apods.set p x.disable := by
    have hp (t : State) : (uncountPoll p t).apods = t.apods := by
      unfold uncountPoll
      repeat' split
      all_goals rfl
    rw [hp, putAPod_apods]
  have hself : (uncountPoll p (putAPod p x.disable s)).apods[p] = x.disable := by
    rw [hu, getElem_set_fin, if_pos rfl]
  generalize uncountPoll p (putAPod p x.disable s) = t at hu hself
  unfold clearSlot
  split
  next h hs =>
    rw [hself] at hs
    refine podLaws_of_set (p := p) (x := x.dropSlot.disable) hl ?_ ((hx.dropSlot hs).disable rfl) nofun
    rw [hself, show (setAPod p _ t).apods = t.apods.set p _ from rfl, hu, Vector.set_set]
    rfl
  next hs =>
    rw [hself] at hs
    exact podLaws_of_set (p := p) hl hu (hx.disable hs) nofun

theorem podLaws_writeAPod {p : Fin 16} {pairs : List (Nat × Int)} {s : State} (hl : PodLaws s)
    (hf : positionFree p pairs s = true) : PodLaws (writeAPod p pairs s) := by
  obtain ⟨ho, -⟩ := (podLaws_iff s).mp hl
  have hx := (ho p).putAll pairs
  have he := enabled_putAPods pairs s.apods[p]
  have hput {x : APod} (hx : x.Lawful 0) (hfree : x.enabled = true → ∀ q : Fin 16, q ≠ p →
      s.apods[q].enabled = true → s.apods[q].positionMm ≠ x.positionMm) : PodLaws (putAPod p x s) :=
    podLaws_of_set hl (putAPod_apods p x s) hx hfree
  unfold writeAPod
  simp only
  split
  next v hc =>
    split
    next hv =>
      have hfree := free_of_positionFree hf (.inl (hv ▸ hc))
      split
      · exact hput hx fun _ => hfree
      · exact hput hx.enable fun _ => hfree
    · split
      · exact podLaws_disable hl
      next hd => exact hput hx fun e => absurd (he.symm.trans e) hd
  next hc => exact hput hx fun e => free_of_positionFree hf (.inr ⟨hc, he.symm.trans e⟩)

/-! ## Every step -/

/-- From s to t the law of the gauges and the laws of the pods are kept. -/
def KeepsLaws (s t : State) : Prop := (GaugeLaw s → GaugeLaw t) ∧ (PodLaws s → PodLaws t)

theorem KeepsLaws.of_eq {s t : State} (hg : t.gauges = s.gauges) (ha : t.apods = s.apods) : KeepsLaws s t :=
  ⟨(Measures.of_eq hg ha).gaugeLaw, (PodsKeep.of_eq ha).podLaws⟩

theorem Measures.keepsLaws {s t : State} (h : Measures s t) : KeepsLaws s t :=
  ⟨h.gaugeLaw, (PodsKeep.of_eq h.apods).podLaws⟩

theorem gauges_of_strain {s t : State} (h : strain t = strain s) : t.gauges = s.gauges :=
  (strain_eq_iff.mp h).2.2.1

theorem gaugeLaw_of_gauges {s t : State} (h : t.gauges = s.gauges) (hl : GaugeLaw s) : GaugeLaw t := by
  rw [gaugeLaw_iff] at *
  rwa [h]

/-- An accepted WRITE of any record (R178). -/
theorem keepsLaws_applyWrite {r : RecordId} {pairs : List (Nat × Int)} {s : State}
    (h : relationRefusal s r pairs = none) : KeepsLaws s (applyWrite r pairs s) := by
  have hs (hh : r ≠ .hall) (hp : r ≠ .plan) (hg : ∀ k, r ≠ .gauge k) : (applyWrite r pairs s).gauges = s.gauges :=
    gauges_of_strain (strain_applyWrite hh hp hg pairs s)
  cases r with
  | gauge k => exact (Measures.writeGauge k pairs s).keepsLaws
  | apod p =>
    refine ⟨gaugeLaw_of_gauges (hs (by simp) (by simp) (by simp)), fun hl => podLaws_writeAPod hl ?_⟩
    simpa [relationRefusal] using h
  | hall =>
    refine .of_eq ?_ (apods_writeHall pairs s)
    unfold applyWrite writeHall
    simp only
    split <;> rfl
  | plan =>
    refine .of_eq ?_ (apods_writePlan pairs s)
    unfold applyWrite writePlan
    simp only
    split <;> rfl
  | _ => exact .of_eq (hs (by simp) (by simp) (by simp)) (apods_applyWrite (by simp) pairs s)

theorem keepsLaws_writeRecord (kind key : Byte) (items : List Byte) (s : State) :
    KeepsLaws s (writeRecord kind key items s).2 := by
  have hrefl : KeepsLaws s s := .of_eq rfl rfl
  unfold writeRecord
  split
  · exact hrefl
  · split
    · exact hrefl
    · split
      · exact hrefl
      · split
        · exact hrefl
        next hr => exact keepsLaws_applyWrite hr

theorem KeepsLaws.event {f : State → State} {s t : State} (hf : KeepsLaws s (f s)) (h : event f s = .next t) :
    KeepsLaws s t :=
  event_next (P := KeepsLaws s) (.of_eq rfl rfl) hf h

theorem KeepsLaws.request {c : Instr} {body : State → Response × State} {s t : State} (hb : KeepsLaws s (body s).2)
    (h : request c body s = .next t) : KeepsLaws s t :=
  request_next (P := KeepsLaws s) (fun _ _ hu => hu) (.of_eq rfl rfl) hb h

/-- The commands of the round plan and the gauge records, and the sample set, whose events trigger rounds. -/
def ofRound : Instr → Bool
  | .controlTick | .sampleSet _ | .restartComplete | .gaugeRound | .gaugeArmArm | .gaugeArmDisarm | .gaugeZero _
  | .peakReset _ | .intervalTimerExpiry | .cyclicStart | .delayExpiry | .latchBroadcastDone _ _ | .latchWaitExpiry
  | .podReadDone _ | .stretchTimeout | .busClearDone _ => true
  | _ => false

theorem exec_measures {c : Instr} {s t : State} (hc : ofRound c = true) (h : exec c s = .next t) : Measures s t := by
  have ev {f : State → State} (hf : Measures s (f s)) (h : event f s = .next t) : Measures s t :=
    event_next (P := Measures s) (.refl s) hf h
  have req {c : Instr} {body : State → Response × State} (hb : Measures s (body s).2)
      (h : request c body s = .next t) : Measures s t :=
    request_next (P := Measures s) (fun u p hu => hu.trans (.of_eq rfl rfl)) (.refl s) hb h
  cases c with
  | controlTick => exact ev (f := controlTick) (.of_eq rfl rfl) h
  | sampleSet counts => exact ev (.sampleSet counts s) h
  | restartComplete => exact ev (.restartComplete s) h
  | gaugeRound => exact req (.roundRequest s) h
  | gaugeArmArm =>
    exact req (body := fun s => (ok, restartTimer (setArmed true s)))
      ((Measures.setArmed true s).trans (.setRound _ _)) h
  | gaugeArmDisarm => exact req (body := fun s => (ok, setArmed false s)) (.setArmed false s) h
  | gaugeZero sel => exact req (.onGauges (fun _ he hl => hl.zeroPending he) sel s) h
  | peakReset sel => exact req (.onGauges (fun _ _ hl => hl.resetPeaks) sel s) h
  | intervalTimerExpiry => exact ev (.intervalTimerExpiry s) h
  | cyclicStart => exact ev (.cyclicStart s) h
  | delayExpiry => exact ev (.delayExpiry s) h
  | latchBroadcastDone addrAck dataAck => exact ev (.latchBroadcastDone addrAck dataAck s) h
  | latchWaitExpiry => exact ev (.latchWaitExpiry s) h
  | podReadDone reply => exact ev (.podReadDone reply s) h
  | stretchTimeout => exact ev (.stretchTimeout s) h
  | busClearDone result => exact ev (.busClearDone result s) h
  | _ => cases hc

theorem exec_podLaws_of_line {c : Instr} {s t : State} (hc : ofLine c = true) (hl : PodLaws s)
    (h : exec c s = .next t) : PodLaws t := by
  have ev {f : State → State} (hf : PodsKeep s (f s)) (h : event f s = .next t) : PodLaws t :=
    event_next (P := PodLaws) hl (hf.podLaws hl) h
  cases c with
  | podCountersClear sel =>
    exact request_next (P := PodLaws) (fun _ _ hu => hu) hl (podLaws_podCountersRequest hl sel) h
  | slotOpen dominant => exact ev (.slotOpen dominant s) h
  | contention => exact ev (.contention s) h
  | replyTimeout falls => exact ev (.replyTimeout falls s) h
  | replyFrameError => exact ev (.replyFrameError s) h
  | replyReceived falls => exact ev (.replyReceived falls s) h
  | quietWaitEnd => exact ev (.quietWaitEnd s) h
  | requestPulse n => exact ev (.requestPulse n s) h
  | lineStuck =>
    refine ev (f := fun s => if s.crackset.lineState = .ok then enterStuck s else s) ?_ h
    split
    · exact .enterStuck s
    · exact .refl s
  | lineRecovered => exact ev (.lineRecovered s) h
  | timeFrameEnd => exact ev (.timeFrameEnd s) h
  | heldFrameBegin => exact ev (.heldFrameBegin s) h
  | _ => cases hc

theorem ofStrain_of_ofLine {c : Instr} (h : ofLine c = true) : ofStrain c = false := by
  cases c with
  | podCountersClear _ | slotOpen _ | contention | replyTimeout _ | replyFrameError | replyReceived _ | quietWaitEnd
  | requestPulse _ | lineStuck | lineRecovered | timeFrameEnd | heldFrameBegin => rfl
  | _ => cases h

theorem gauges_restartBlocks (s : State) : (restartBlocks s).gauges = s.gauges := by
  have hram (r : Fin 8) (t : State) : strain (restartRam r t) = strain t := by simp [restartRam]
  have hgroup (g : Fin 4) (t : State) : strain (restartGroup g t) = strain t := strain_putGroup _ _ _
  have hlimit (i : Fin 24) (t : State) : strain (restartLimit i t) = strain t := by
    unfold restartLimit
    simp only
    repeat' split
    all_goals simp
  have hround (t : State) : (restartRound t).gauges = t.gauges := by
    unfold restartRound
    simp only
    split <;> rfl
  have hothers := (strain_forAll hlimit _).trans ((strain_forAll hgroup _).trans (strain_forAll hram s))
  exact (gauges_of_strain (strain_restartLine _)).trans ((hround _).trans (gauges_of_strain hothers))

theorem KeepsLaws.setPort {s t : State} (h : KeepsLaws s t) (p : Port) : KeepsLaws s { t with port := p } := h

/-- What a command can do to the gauges and the pods keeps their laws. -/
theorem exec_keepsLaws {c : Instr} {s t : State} (h : exec c s = .next t) : KeepsLaws s t := by
  have hw {c : Instr} {kind key : Byte} {items : List Byte} (h : request c (writeRecord kind key items) s = .next t) :
      KeepsLaws s t := .request (keepsLaws_writeRecord kind key items s) h
  cases hline : ofLine c with
  | true =>
    exact ⟨gaugeLaw_of_gauges (gauges_of_strain (exec_strain (ofStrain_of_ofLine hline) h)),
      fun hl => exec_podLaws_of_line hline hl h⟩
  | false =>
    cases hround : ofRound c with
    | true => exact (exec_measures hround h).keepsLaws
    | false =>
      cases hstrain : ofStrain c with
      | false => exact .of_eq (gauges_of_strain (exec_strain hstrain h)) (exec_apods (by simp [hstrain, hline]) h)
      | true =>
        have hrest : (ofStrain c && !ofRound c) = true := by rw [hstrain, hround]; rfl
        cases c with
        | powerOnReset hpu estop =>
          cases h
          exact ⟨fun _ => powerOn_gaugeLaw hpu estop, fun _ => powerOn_podLaws hpu estop⟩
        | restart =>
          refine .event (f := takeRequest .restart _) (takeRequest_next (fun _ _ hu => hu) (.of_eq rfl rfl) ?_) h
          have hblocks : KeepsLaws s (restartBlocks s) :=
            ⟨gaugeLaw_of_gauges (gauges_restartBlocks s), (PodsKeep.restartBlocks s).podLaws⟩
          exact hblocks.setPort _
        | write kind key items | stepWrite kind key items => exact hw h
        | seatLoadWrite key items | zoneWrite key items | gaugeEnable key items | gaugeDisable key items
        | apodEnable key items | apodDisable key items | planWrite key items | pwmPeriodWrite key items
        | attentionMaskWrite key items | limitDefine key items | limitEdit key items | limitEnable key items
        | limitDisable key items => exact hw h
        | _ => cases hrest

theorem step_keepsLaws {s t : State} (h : step s = .next t) : KeepsLaws s t := by
  unfold step at h
  split at h
  next c rest _ => exact exec_keepsLaws (s := { s with pending := rest }) h
  · cases h
    unfold idleCycle
    split
    · exact .of_eq rfl rfl
    · exact .of_eq (gauges_of_strain (by simp)) (by simp)

/-- Settles O56: each record keeps its own law through every reading, poll and hit, an arriving hit being owed from its
acceptance until it is paired, held or counted unpaired; and only a WRITE moves or enables a pod. -/
theorem everyStepKeepsGaugesAndPods : Obligations.EveryStepKeepsGaugesAndPods :=
  ⟨fun _ _ hl h => (step_keepsLaws h).1 hl, fun _ _ hl h => (step_keepsLaws h).2 hl⟩

end Sys2Proof.Machine
end

section
/-! What an accepted WRITE makes of an APOD record, and the statement about it. -/

namespace Sys2Proof.Machine

/-! ## One APOD record replaced (R108) -/

theorem set_getElem_self_fin {α : Type} {n : Nat} (v : Vector α n) (i : Fin n) : v.set i v[i] = v := by
  simp

/-- The mark of a pod that is replaced keeps what it was, or is set by a change of state (R108). -/
theorem putAPod_eq (p : Fin 16) (x : APod) (s : State) :
    putAPod p x s =
      { s with
        apods := s.apods.set p x
        marks :=
          { s.marks with
            apod := s.marks.apod.set p (s.marks.apod[p] || decide (x.state ≠ s.apods[p].state)) } } := by
  by_cases h : x.state = s.apods[p].state
  · simp only [putAPod, markIf, h, bne_self_eq_false, Bool.false_eq_true, if_false, ne_eq, not_true_eq_false,
      decide_false, Bool.or_false, set_getElem_self_fin]
  · simp only [putAPod, markIf, bne_iff_ne, ne_eq, h, not_false_eq_true, if_true, decide_true, Bool.or_true]
    rfl

theorem putAPod_of_state_eq {p : Fin 16} {x : APod} {s : State} (h : x.state = s.apods[p].state) :
    putAPod p x s = { s with apods := s.apods.set p x } := by
  rw [putAPod_eq]
  simp only [h, ne_eq, not_true_eq_false, decide_false, Bool.or_false, set_getElem_self_fin]

theorem putAPod_of_state_ne {p : Fin 16} {x : APod} {s : State} (h : x.state ≠ s.apods[p].state) :
    putAPod p x s =
      { s with
        apods := s.apods.set p x
        marks := { s.marks with apod := s.marks.apod.set p true } } := by
  rw [putAPod_eq]
  simp only [h, ne_eq, not_false_eq_true, decide_true, Bool.or_true]

/-! ## A pod's slot and its poll in flight (R102, R121) -/

/-- A pod whose slot has been cleared, a hit in it counted unpaired (R121). -/
def APod.slotCleared (a : APod) : APod :=
  { a with slot := none, unpaired := if a.slot = none then a.unpaired else satInc max32 a.unpaired }

theorem clearSlot_eq (p : Fin 16) (s : State) : clearSlot p s = setAPod p s.apods[p].slotCleared s := by
  unfold clearSlot
  split
  next k h => rw [APod.dropSlot, APod.slotCleared, if_neg (by simp [h, - Fin.getElem_fin])]
  next h =>
    have hself : s.apods[p].slotCleared = s.apods[p] := by rw [APod.slotCleared, if_pos h, ← h]
    rw [hself, setAPod, set_getElem_self_fin]

/-- The line's frame once pod p has been disabled: a poll of that pod in flight is not counted (R102). -/
def LineFrame.uncounted (p : Fin 16) : LineFrame → LineFrame
  | .poll q began counted => .poll q began (if q = p then false else counted)
  | f => f

theorem uncountPoll_eq (p : Fin 16) (s : State) :
    uncountPoll p s = { s with line := { s.line with frame := s.line.frame.uncounted p } } := by
  unfold uncountPoll
  split
  next q began counted hf =>
    rw [hf, LineFrame.uncounted]
    split
    · rfl
    · rw [← hf]
  all_goals
    next hf =>
      rw [hf, LineFrame.uncounted, ← hf]
      exact nofun

/-! ## The pairs of the WRITE -/

theorem recordOf_apod (p : Fin 16) : recordOf 7 (byte p.val) = some (.apod p) := by
  refine recordOf_of_pair ?_
  rw [byte_toNat (by omega)]
  rfl

theorem asTaken_apodWrite {c : Instr} {p : Fin 16} {items : List Byte} (h : IsAPodWrite c p items) :
    asTaken c = .write 7 (byte p.val) items := by
  rcases h with rfl | rfl | rfl <;> rfl

theorem state_putAPods (pairs : List (Nat × Int)) (a : APod) : (putAll APod.put pairs a).state = a.state :=
  putAll_invariant (P := fun b : APod => b.state = a.state)
    (fun p _ y hy => by unfold APod.put; split <;> exact hy) rfl

/-- The position of an enabled pod does not pass the pair checks (R106, R178 step 4). -/
theorem putAPods_enabled {c : Instr} {p : Fin 16} {items : List Byte} {pairs : List (Nat × Int)} {s : State}
    (hp : Passes c (.apod p) items pairs s) (he : s.apods[p].enabled = true) :
    putAll APod.put pairs s.apods[p] = s.apods[p] := by
  obtain ⟨-, -, hch⟩ := hp
  refine putAll_invariant (P := fun x => x = s.apods[p]) (fun q hm y hy => ?_) rfl
  have hl := letsWrite_of_checkPairs hch (by simp) q hm
  have hf : q.1 ≠ 2 := fun hf => by
    rw [(letsWrite_apod s p q.1).mpr ⟨hf, he⟩] at hl
    cases hl
  unfold APod.put
  split
  next h => exact absurd h hf
  · exact hy

/-- A WRITE that leaves the pod disabled asks nothing of its position (R106). -/
theorem positionFree_of_disabling {p : Fin 16} {pairs : List (Nat × Int)} {s : State}
    (h : ¬(carried 1 pairs = some 1 ∨ carried 1 pairs = none ∧ s.apods[p].enabled = true)) :
    positionFree p pairs s = true := by
  obtain ⟨h1, h0⟩ := not_or.mp h
  unfold positionFree
  cases hc : carried 1 pairs with
  | none => simp only [Bool.eq_false_iff.mpr fun he => h0 ⟨hc, he⟩, Bool.not_false, Bool.true_or]
  | some v =>
    have hv : v ≠ 1 := fun hv => h1 (hv ▸ hc)
    simp [hv]

/-- A pod that the WRITE leaves enabled may stand where no other enabled pod stands (R106). -/
theorem positionFree_of_free {p : Fin 16} {pairs : List (Nat × Int)} {s : State}
    (h : ∀ q : Fin 16, q ≠ p → s.apods[q].enabled = true →
      s.apods[q].positionMm ≠ (putAll APod.put pairs s.apods[p]).positionMm) : positionFree p pairs s = true := by
  unfold positionFree
  refine Bool.or_eq_true_iff.mpr (.inr (List.all_eq_true.mpr fun q _ => ?_))
  by_cases hq : q = p
  · simp [hq]
  · cases he : s.apods[q].enabled with
    | false => simp
    | true => simpa [hq, - Fin.getElem_fin] using h q hq he

/-- A WRITE that its owner refuses on the whole record changes the port alone (R178). -/
theorem exec_write_refused {c : Instr} {kind key : Byte} {items : List Byte} {r : RecordId} {pairs : List (Nat × Int)}
    {st : Status} {s : State} (hc : asTaken c = .write kind key items) (hr : recordOf kind key = some r)
    (hp : Passes c r items pairs s) (hrel : relationRefusal s r pairs = some st) :
    exec c s = .next { s with port := answered (refuseAt st pairs.length) s } := by
  obtain ⟨hd, hi, hch⟩ := hp
  rw [exec_asTaken_write hc]
  exact request_due_idle hd (by simp [writeRecord, hr, hi, hch, hrel])

/-! ## The three effects of the WRITE (R106) -/

section
variable {p : Fin 16} {pairs : List (Nat × Int)} {s : State}

theorem writeAPod_enables (hc : carried 1 pairs = some 1) (he : s.apods[p].enabled = false) :
    writeAPod p pairs s = putAPod p (putAll APod.put pairs s.apods[p]).enable s := by
  simp only [writeAPod, hc, he, Bool.false_eq_true, if_false, if_true]

theorem writeAPod_stays_enabled (hc : carried 1 pairs = some 1) (he : s.apods[p].enabled = true) :
    writeAPod p pairs s = putAPod p (putAll APod.put pairs s.apods[p]) s := by
  simp only [writeAPod, hc, he, if_true]

theorem writeAPod_stays_disabled (hc : carried 1 pairs ≠ some 1) (he : s.apods[p].enabled = false) :
    writeAPod p pairs s = putAPod p (putAll APod.put pairs s.apods[p]) s := by
  unfold writeAPod
  simp only [he]
  split
  next v hv =>
    have h1 : v ≠ 1 := fun h => hc (h ▸ hv)
    simp only [h1, Bool.false_eq_true, if_false]
  · rfl

theorem writeAPod_disables (hc : carried 1 pairs = some 0) (he : s.apods[p].enabled = true) :
    writeAPod p pairs s = clearSlot p (uncountPoll p (putAPod p (putAll APod.put pairs s.apods[p]).disable s)) := by
  simp only [writeAPod, hc, he, if_true, zero_ne_one, if_false]

end

/-- A pod that was enabled leaves the line and the locator: its poll in flight and its slot hit (R102, R106, R121). -/
theorem clearSlot_disable {p : Fin 16} {x : APod} {s : State} (h : s.apods[p].state ≠ .disabled) :
    clearSlot p (uncountPoll p (putAPod p x.disable s)) =
      { s with
        apods := s.apods.set p x.disable.slotCleared
        line := { s.line with frame := s.line.frame.uncounted p }
        marks := { s.marks with apod := s.marks.apod.set p true } } := by
  rw [putAPod_of_state_ne (x := x.disable) (Ne.symm h), uncountPoll_eq, clearSlot_eq]
  simp [setAPod]

/-- Settles O29: the WRITE replaces the one record, and a disable clears its slot and uncounts its poll beside it. -/
theorem aPodWritesEnableAndDisable : Obligations.APodWritesEnableAndDisable := by
  intro c p items pairs s x y stays free hc hp hstate
  have hexec (h : positionFree p pairs s = true) : exec c s = .next (answer ok (writeAPod p pairs s)) :=
    exec_write_accepted (asTaken_apodWrite hc) (recordOf_apod p) hp (if_pos h)
  have hystate : y.state = s.apods[p].state := state_putAPods pairs _
  have hdisabled (he : x.enabled = false) : s.apods[p].state = .disabled :=
    not_not.mp fun hn => by simp [hstate.mpr hn] at he
  refine ⟨fun hs hf => ?_, fun h1 hf he => ?_, fun h1 hf he => ?_, fun h0 he => ?_, fun he h1 => ?_⟩
  · have hnot : ¬positionFree p pairs s = true := fun h => hf (free_of_positionFree h hs)
    exact exec_write_refused (asTaken_apodWrite hc) (recordOf_apod p) hp (if_neg hnot)
  · have hsame : writeAPod p pairs s = s := by
      rw [writeAPod_stays_enabled h1 he, putAPods_enabled hp he, putAPod_of_state_eq rfl, set_getElem_self_fin]
    rw [Idles, hexec (positionFree_of_free hf), hsame]
    rfl
  · have hne : y.enable.state ≠ s.apods[p].state := fun e => by
      rw [hdisabled he] at e
      cases e
    rw [hexec (positionFree_of_free hf), writeAPod_enables h1 he, putAPod_of_state_ne hne]
    rfl
  · have hfree := positionFree_of_disabling (p := p) (s := s) (pairs := pairs) (by simp [h0])
    rw [hexec hfree, writeAPod_disables h0 he, clearSlot_disable (hstate.mp he), putAPods_enabled hp he]
    rfl
  · have hfree := positionFree_of_disabling (p := p) (s := s) (pairs := pairs) (by simpa [h1, x] using fun _ => he)
    rw [hexec hfree, writeAPod_stays_disabled h1 he, putAPod_of_state_eq hystate]
    rfl

end Sys2Proof.Machine
end

section
/-! The operations of the acoustic line, an equation for each case: frame ends, the choice of a pod, slots and
line_state. -/

namespace Sys2Proof.Machine

/-! ## Frame ends (R96, R101, R120) -/

/-- A pod whose slot has been examined at a frame end: a hit that is too old has left it (R120). -/
def APod.expired (s : State) (a : APod) : APod :=
  match a.slot with
  | none => a
  | some h => if s.crackset.pairHoldUs < (hallTime s - h.time).toInt then a.dropSlot else a

theorem expireSlot_eq (p : Fin 16) (s : State) : expireSlot p s = setAPod p (s.apods[p].expired s) s := by
  have hself : setAPod p s.apods[p] s = s := by simp [setAPod]
  unfold expireSlot APod.expired
  split
  next h hs =>
    by_cases hold : s.crackset.pairHoldUs < (hallTime s - h.time).toInt
    · rw [if_pos (by simpa [tooOld, signedDiff] using hold)]
      simp only [hs, if_pos hold]
    · rw [if_neg (by simpa [tooOld, signedDiff] using hold)]
      simp only [hs, if_neg hold, hself]
  next hs => simp only [hs, hself]

/-- A record of a bank that has been changed in place. -/
theorem getElem_of_eq_mapBank {α : Type} {n : Nat} {f : Fin n → α → α} {v w : Vector α n} (h : w = mapBank f v)
    (i : Fin n) : w[i] = f i v[i] := by
  subst h
  exact mapBank_getElem f v i.val i.isLt

/-- A frame-end notice examines the slots and does nothing else (R120). -/
theorem frameEndNotice_eq (s : State) :
    frameEndNotice s = { s with apods := mapBank (fun _ a => a.expired s) s.apods } := by
  have hframe : frameEndNotice s = { s with apods := (frameEndNotice s).apods } :=
    forAll_relation (R := fun a b => b = { a with apods := b.apods }) (fun _ => rfl)
      (fun a b c hab hbc => by rw [hbc, hab]) (fun p t => by rw [expireSlot_eq]; rfl) s
  have hpod (p : Fin 16) : (frameEndNotice s).apods[p] = s.apods[p].expired s := by
    obtain ⟨a, ⟨ha, hap⟩, -, hb⟩ :=
      forAll_around (f := expireSlot) (R := fun a b => b = { a with apods := b.apods } ∧ b.apods[p] = a.apods[p])
        (fun _ => ⟨rfl, rfl⟩) (fun a b c hab hbc => ⟨by rw [hbc.1, hab.1], hbc.2.trans hab.2⟩) p
        (fun q hq t => ⟨by rw [expireSlot_eq]; rfl, by rw [expireSlot_eq, apod_setAPod, if_neg hq]⟩) s
    refine hb.trans ?_
    rw [expireSlot_eq, apod_setAPod, if_pos rfl, hap, ha]
    rfl
  have hbank : (frameEndNotice s).apods = mapBank (fun _ a => a.expired s) s.apods :=
    Vector.ext fun i hi => (hpod ⟨i, hi⟩).trans (mapBank_getElem (fun _ a => a.expired s) s.apods i hi).symm
  exact hframe.trans (by rw [hbank])

theorem expired_setLine (x : Line) (a : APod) (s : State) : a.expired (setLine x s) = a.expired s := rfl

/-- A frame end fixes the next slot, and every pod's slot is examined (R96, R101, R120). -/
theorem frameEnd_eq (began : Nat) (s : State) :
    frameEnd began s =
      { s with
        apods := mapBank (fun _ a => a.expired s) s.apods
        line :=
          { s.line with
            frame := .idle
            nextSlot := max (began + 40 * s.crackset.pollIntervalUs) (s.clk + 800) } } := by
  rw [frameEnd, frameEndNotice_eq]
  simp only [expired_setLine]
  rfl

theorem apod_frameEnd (began : Nat) (s : State) (p : Fin 16) :
    (frameEnd began s).apods[p] = s.apods[p].expired s :=
  getElem_of_eq_mapBank (congrArg State.apods (frameEnd_eq began s)) p

/-! ## The choice of a pod (R98) -/

/-- The first index in ascending order is the lowest. -/
theorem find?_finRange_eq_some {n : Nat} {P : Fin n → Bool} {q : Fin n} :
    (List.finRange n).find? P = some q ↔ P q = true ∧ ∀ r, P r = true → q ≤ r := by
  rw [List.find?_eq_some_iff_getElem]
  refine and_congr_right fun _ => ⟨?_, fun h => ⟨q.val, by simp, by simp, fun j hj => ?_⟩⟩
  · rintro ⟨i, hi, rfl, hbefore⟩ r hr
    by_contra hlt
    have := hbefore r.val (by simpa [Fin.lt_def] using hlt)
    simp [hr] at this
  · rw [List.getElem_finRange, Bool.not_eq_true']
    refine Bool.eq_false_iff.mpr fun hp => ?_
    exact absurd (h _ hp) (by simpa [Fin.lt_def] using hj)

/-- The search looks for an enabled pod above a pod, or for any enabled pod where none is given (R98). -/
theorem enabledAbove_eq (lim : Option (Fin 16)) (s : State) :
    enabledAbove lim s =
      (List.finRange 16).find? fun q => s.apods[q].enabled && lim.all fun l => decide (l < q) := by
  cases lim <;> rfl

theorem enabledAbove_eq_some {lim : Option (Fin 16)} {q : Fin 16} {s : State} :
    enabledAbove lim s = some q ↔ LowestEnabled s lim q := by
  simp only [enabledAbove_eq, find?_finRange_eq_some, LowestEnabled, Bool.and_eq_true, Option.all_eq_true,
    decide_eq_true_eq, and_assoc, and_imp]

theorem enabledAbove_eq_none {lim : Option (Fin 16)} {s : State} :
    enabledAbove lim s = none ↔ NoneEnabled s lim := by
  simp only [enabledAbove_eq, List.find?_eq_none, NoneEnabled, List.mem_finRange, forall_true_left,
    Bool.and_eq_true, Option.all_eq_true, decide_eq_true_eq, not_and]

/-- With no pod enabled there is none above any pod. -/
theorem NoneEnabled.above {s : State} (h : NoneEnabled s none) (lim : Option (Fin 16)) : NoneEnabled s lim :=
  fun p he _ => h p he nofun

theorem sweepNext_eq_some {q : Fin 16} {s : State} :
    sweepNext s = some q ↔ ∃ last, s.line.sweep = .on last ∧ LowestEnabled s last q := by
  unfold sweepNext
  cases h : s.line.sweep with
  | off => simp
  | on last => simp [enabledAbove_eq_some]

theorem sweepNext_eq_none {s : State} :
    sweepNext s = none ↔ s.line.sweep = .off ∨ ∃ last, s.line.sweep = .on last ∧ NoneEnabled s last := by
  unfold sweepNext
  cases h : s.line.sweep with
  | off => simp
  | on last => simp [enabledAbove_eq_none]

theorem roundRobin_eq_some {q : Fin 16} {s : State}
    (h : LowestEnabled s (some s.line.rr) q ∨ (NoneEnabled s (some s.line.rr) ∧ LowestEnabled s none q)) :
    roundRobin s = some q := by
  unfold roundRobin
  rcases h with h | ⟨hn, h⟩
  · rw [enabledAbove_eq_some.mpr h]
  · rw [enabledAbove_eq_none.mpr hn]
    exact enabledAbove_eq_some.mpr h

theorem roundRobin_eq_none {s : State} (h : NoneEnabled s none) : roundRobin s = none := by
  unfold roundRobin
  rw [enabledAbove_eq_none.mpr (h.above _)]
  exact enabledAbove_eq_none.mpr h

/-! ## Slots (R93 to R98) -/

/-- The frame of a slot that polls pod q: begun, or held back by a dominant line (R93, R94). -/
def pollFrame (dominant : Bool) (q : Fin 16) (s : State) : LineFrame :=
  if dominant then .held (.poll q s.line.rr) else .poll q s.clk true

theorem openPollSlot_poll {q rr : Fin 16} {sw : Sweep} {s : State} (h : choosePoll s = (some q, sw, rr))
    (dominant : Bool) :
    openPollSlot dominant s =
      { s with line := { s.line with sweep := sw, rr := rr, frame := pollFrame dominant q s } } := by
  unfold openPollSlot
  rw [h]
  cases dominant <;> rfl

theorem openPollSlot_swept {q : Fin 16} {s : State} (h : sweepNext s = some q) (dominant : Bool) :
    openPollSlot dominant s =
      { s with line := { s.line with sweep := .on (some q), frame := pollFrame dominant q s } } :=
  openPollSlot_poll (by rw [choosePoll, h]) dominant

theorem openPollSlot_roundRobin {q : Fin 16} {s : State} (hs : sweepNext s = none) (hr : roundRobin s = some q)
    (dominant : Bool) :
    openPollSlot dominant s =
      { s with line := { s.line with sweep := .off, rr := q, frame := pollFrame dominant q s } } :=
  openPollSlot_poll (by rw [choosePoll, hs, hr]) dominant

/-- With no pod enabled the slot is empty (R96). -/
theorem openPollSlot_empty {s : State} (h : NoneEnabled s none) (dominant : Bool) :
    openPollSlot dominant s = frameEnd s.clk { s with line := { s.line with sweep := .off } } := by
  have hs : sweepNext s = none := by
    cases hw : s.line.sweep with
    | off => exact sweepNext_eq_none.mpr (.inl hw)
    | on last => exact sweepNext_eq_none.mpr (.inr ⟨last, hw, h.above last⟩)
  unfold openPollSlot
  rw [choosePoll, hs, roundRobin_eq_none h]
  rfl

theorem openSlot_poll {s : State} (h : s.line.timeDue = false) (dominant : Bool) :
    openSlot dominant s = openPollSlot dominant s := by
  simp [openSlot, h]

theorem openSlot_time {s : State} (h : s.line.timeDue = true) : openSlot false s = beginTime s := by
  simp [openSlot, h]

theorem openSlot_time_held {s : State} (h : s.line.timeDue = true) :
    openSlot true s = { s with line := { s.line with frame := .held .time } } := by
  simp [openSlot, h, setLine]

/-! ## Request pulses and line_state (R103, R104, R108) -/

/-- A change of line_state sets the CRACKSET mark (R108). -/
theorem setLineState_of_ne {x : LineState} {s : State} (h : s.crackset.lineState ≠ x) :
    setLineState x s =
      { s with
        crackset := { s.crackset with lineState := x }
        marks := { s.marks with crackset := true } } := by
  simp only [setLineState, markIf, if_pos (bne_iff_ne.mpr (Ne.symm h))]
  rfl

/-- The round-robin position that a frame leaves once it is given up: a held POLL's as before its slot (R104). -/
def LineFrame.givesBack (rr : Fin 16) : LineFrame → Fin 16
  | .held (.poll _ before) => before
  | _ => rr

/-- Entry to STUCK: a frame in flight ends with its notice, and one that is awaited or held back is given up (R104). -/
theorem enterStuck_eq {s : State} (h : s.crackset.lineState = .ok) :
    enterStuck s =
      { s with
        crackset := { s.crackset with lineState := .stuck }
        marks := { s.marks with crackset := true }
        line :=
          { s.line with
            sweep := .off, frame := .idle, stuckSince := s.clk, rr := s.line.frame.givesBack s.line.rr }
        apods := if lineIdle s then s.apods else (frameEndNotice s).apods } := by
  unfold enterStuck
  rw [setLineState_of_ne (by rw [h]; decide)]
  simp only [lineIdle, frameEndNotice_eq]
  cases hf : s.line.frame with
  | held f => cases f <;> rfl
  | _ => rfl

end Sys2Proof.Machine
end

section
/-! The statement about slots, held frames, frame ends and the moments at which a TIME frame falls due. -/

namespace Sys2Proof.Machine

/-! ## The next TIME frame (R97) -/

/-- Hall time next reaches a multiple of 100,000 µs at its next multiple or, before that, at its wrap to 0. -/
theorem nextTimeFrame_next (m : Nat) :
    m < nextTimeFrame m ∧ nextTimeFrame m % 4294967296 % 100000 = 0 ∧
      ∀ k, m < k → k < nextTimeFrame m → k % 4294967296 % 100000 ≠ 0 := by
  have hdef : nextTimeFrame m =
      m + min (100000 - m % 4294967296 % 100000) (4294967296 - m % 4294967296) := rfl
  have hlt := Nat.mod_lt m (show 4294967296 > 0 by decide)
  rw [hdef]
  refine ⟨by omega, ?_, fun k hk hnext => ?_⟩
  · rcases Nat.lt_or_ge (100000 - m % 4294967296 % 100000) (4294967296 - m % 4294967296) with h | h
    · rw [min_eq_left h.le, Nat.add_mod, Nat.mod_eq_of_lt (show _ < 4294967296 by omega)]
      omega
    · rw [min_eq_right h]
      omega
  · have hstep : k % 4294967296 = m % 4294967296 + (k - m) := by omega
    omega

/-! ## Slots and held frames (R93, R96, R109) -/

/-- A slot that opens does so on the idle line at its time, or once the line has settled (R96, R109). -/
theorem slotOpen_opens {s : State} {opens : Nat} (hok : s.crackset.lineState = .ok)
    (h : (s.line.frame = .idle ∧ opens = max s.clk s.line.nextSlot) ∨
      ∃ since, s.line.frame = .settling since ∧ opens = max s.clk (since + 3200)) (dominant : Bool) :
    slotOpen dominant s = openSlot dominant { s with clk := opens, line := { s.line with frame := .idle } } := by
  have hstuck : ¬s.crackset.lineState = .stuck := by rw [hok]; decide
  unfold slotOpen
  rw [if_neg hstuck]
  rcases h with ⟨hf, rfl⟩ | ⟨since, hf, rfl⟩
  · rw [hf]
    exact congrArg (openSlot dominant) (by rw [passTo, ← hf])
  · rw [hf]
    rfl

theorem exec_heldFrameBegin {s : State} {f : HeldFrame} (h : s.inReset = false) (hf : s.line.frame = .held f) :
    exec .heldFrameBegin s = .next (beginHeld f s) := by
  refine (event_out h).trans ?_
  rw [heldFrameBegin, hf]

/-- Settles O30: each slot by the choice of its pod, each frame end by the notice that ends it. -/
theorem slotsOpenAndFramesEnd : Obligations.SlotsOpenAndFramesEnd := by
  refine ⟨fun dominant s => ?_, fun dominant s hr => ?_, fun s hr => ?_, fun began s => ?_, fun began s hr hf => ?_,
    fun began since s hr hf => ?_⟩
  · intro swept unswept frame
    exact ⟨fun q hq => openPollSlot_swept (sweepNext_eq_some.mpr hq) dominant,
      fun q hu hq => openPollSlot_roundRobin (sweepNext_eq_none.mpr hu) (roundRobin_eq_some hq) dominant,
      fun h => openPollSlot_empty h dominant⟩
  · have hexec : exec (.slotOpen dominant) s = .next (slotOpen dominant s) := event_out hr
    refine ⟨fun opens hok hopens => ?_, fun hstuck => ?_, exec_heldFrameBegin hr, fun q before hf he => ?_,
      fun q before hf he => ?_, exec_heldFrameBegin hr⟩
    · rw [hexec, slotOpen_opens hok hopens]
      refine ⟨fun hd => ?_, fun hd hdom => ?_, fun hd hdom => ?_⟩
      · exact congrArg _ (openSlot_poll (by exact hd) dominant)
      · rw [hdom]
        exact congrArg _ (openSlot_time (by exact hd))
      · rw [hdom]
        exact congrArg _ (openSlot_time_held (by exact hd))
    · rw [hexec, slotOpen, if_pos hstuck]
    · rw [exec_heldFrameBegin hr hf, beginHeld, if_pos he]
      rfl
    · rw [exec_heldFrameBegin hr hf, beginHeld, if_neg (by rw [he]; decide)]
      rfl
  · exact ⟨_, event_out hr, nextTimeFrame_next s.line.nextTime⟩
  · intro t
    refine ⟨by rw [show t = _ from frameEnd_eq began s], fun p => ?_⟩
    exact apod_frameEnd began s p
  · refine (event_out hr).trans ?_
    rw [timeFrameEnd, hf]
    rfl
  · refine (event_out hr).trans ?_
    rw [quietWaitEnd, hf]
    rfl

end Sys2Proof.Machine
end

section
/-! The statement about the bits of a byte on the acoustic line, the receiver of a reply, and the levels of ALINE. -/

namespace Sys2Proof.Machine

/-! ## The bits of a byte (R91) -/

theorem lineBits_start (b : Byte) : (lineBits b).getLsbD 0 = false := by
  simp only [lineBits, BitVec.getLsbD_append]
  rfl

theorem lineBits_data (b : Byte) {i : Nat} (h : i < 8) : (lineBits b).getLsbD (i + 1) = b.getLsbD i := by
  simp only [lineBits, BitVec.getLsbD_append]
  rw [if_neg (by omega), if_pos (by omega)]
  rfl

theorem lineBits_stop (b : Byte) : (lineBits b).getLsbD 9 = true := by
  simp only [lineBits, BitVec.getLsbD_append]
  rfl

/-! ## The receiver (R91, R99) -/

/-- A reply is complete at byte 5h + 2; a hit count of 7 never is (R99). -/
theorem replyComplete_iff (reply : List Byte) :
    replyComplete reply = true ↔
      reply ≠ [] ∧ (reply.headD 0).toNat % 8 ≤ 6 ∧ reply.length = 5 * ((reply.headD 0).toNat % 8) + 2 := by
  cases reply <;> simp [replyComplete]

/-- What the receiver comes to with a byte more (R99). -/
def receptionOf (taken : List Byte) : Reception :=
  if (taken.headD 0).toNat % 8 = 7 then .failed taken.length
  else if replyComplete taken then .complete taken else .waiting taken

section
variable {bytes : List Byte} {f : LineFall}

theorem take_glitch (h : f.getLsbD 0 = true) : Reception.take (.waiting bytes) f = .waiting bytes := if_pos h

theorem take_framingFault (h : f.getLsbD 0 = false) (h9 : f.getLsbD 9 = false) :
    Reception.take (.waiting bytes) f = .failed (bytes.length + 1) := by
  simp only [Reception.take, LineFall.glitch, LineFall.framingFault, h, h9]
  rfl

theorem take_byte (h : f.getLsbD 0 = false) (h9 : f.getLsbD 9 = true) :
    Reception.take (.waiting bytes) f = receptionOf (bytes ++ [LineFall.byte f]) := by
  simp only [Reception.take, LineFall.glitch, LineFall.framingFault, h, h9]
  rfl

end

theorem take_lineBits (bytes : List Byte) (b : Byte) :
    Reception.take (.waiting bytes) (lineBits b) = receptionOf (bytes ++ [b]) := by
  rw [take_byte (lineBits_start b) (lineBits_stop b), lineBits_byte]

theorem receptionOf_badCount {taken : List Byte} (h : (taken.headD 0).toNat % 8 = 7) :
    receptionOf taken = .failed taken.length := if_pos h

theorem receptionOf_complete {taken : List Byte} (h7 : (taken.headD 0).toNat % 8 ≠ 7)
    (hl : taken.length = 5 * ((taken.headD 0).toNat % 8) + 2) : receptionOf taken = .complete taken := by
  have hne : taken ≠ [] := by
    rintro rfl
    simp at hl
  rw [receptionOf, if_neg h7, if_pos ((replyComplete_iff taken).mpr ⟨hne, by omega, hl⟩)]

theorem receptionOf_waiting {taken : List Byte} (h7 : (taken.headD 0).toNat % 8 ≠ 7)
    (hl : taken.length ≠ 5 * ((taken.headD 0).toNat % 8) + 2) : receptionOf taken = .waiting taken := by
  rw [receptionOf, if_neg h7, if_neg (fun h => hl ((replyComplete_iff taken).mp h).2.2)]

/-- Further falls are taken by what the falls before them have come to. -/
theorem receive_append (falls more : List LineFall) :
    receive (falls ++ more) = more.foldl Reception.take (receive falls) := List.foldl_append

/-- After an outcome the receiver takes no more (R99). -/
theorem receive_settled {falls : List LineFall} {r : Reception} (h : ∀ f, r.take f = r) (hr : receive falls = r)
    (more : List LineFall) : receive (falls ++ more) = r := by
  rw [receive_append, hr]
  induction more with
  | nil => rfl
  | cons f more ih => rwa [List.foldl_cons, h]

/-- A reply whose check byte is still to come waits for a further byte (R99). -/
theorem receive_part {count : Byte} (hc : count.toNat % 8 ≤ 6) (rest : List Byte)
    (hl : rest.length < 5 * (count.toNat % 8) + 1) :
    receive ((count :: rest).map lineBits) = .waiting (count :: rest) := by
  induction rest using List.reverseRecOn with
  | nil =>
    have h7 : (([count] : List Byte).headD 0).toNat % 8 ≠ 7 := by simp; omega
    exact (take_lineBits [] count).trans (receptionOf_waiting h7 (by simp))
  | append_singleton rest b ih =>
    rw [List.length_append, List.length_singleton] at hl
    rw [← List.cons_append, List.map_append, List.map_singleton, receive_snoc, ih (by omega), take_lineBits]
    exact receptionOf_waiting (by simp; omega) (by simp; omega)

/-- A whole reply sent bit by bit is received as sent (R99). -/
theorem receive_whole {count : Byte} {rest : List Byte} (hc : count.toNat % 8 ≤ 6)
    (hl : rest.length = 5 * (count.toNat % 8) + 1) :
    receive ((count :: rest).map lineBits) = .complete (count :: rest) := by
  obtain ⟨rest, b, rfl⟩ : ∃ init b, rest = init ++ [b] :=
    ⟨_, _, (List.dropLast_append_getLast (by rintro rfl; simp at hl)).symm⟩
  rw [List.length_append, List.length_singleton] at hl
  rw [← List.cons_append, List.map_append, List.map_singleton, receive_snoc, receive_part hc rest (by omega),
    take_lineBits]
  exact receptionOf_complete (by simp; omega) (by simp; omega)

/-! ## The levels of ALINE (R91, R94, R95) -/

/-- ALINE in bit j of byte i of the frame in flight. -/
theorem alineDominant_bit {s : State} {bytes : List Byte} {began i j : Nat} (hb : lineBytes s = bytes)
    (hf : frameBegan s = began) (hi : i < bytes.length) (hj : j < 10) (hlo : began + 1600 * i + 160 * j ≤ s.clk)
    (hhi : s.clk < began + 1600 * i + 160 * (j + 1)) :
    alineDominant s = true ↔ (lineBits (bytes.getD i 0)).getLsbD j = false := by
  have hbit : (s.clk - frameBegan s) / us 4 = 10 * i + j := by
    rw [hf]
    exact Nat.div_eq_of_lt_le (by unfold us; omega) (by unfold us; omega)
  have hbyte : (10 * i + j) / 10 = i := by omega
  have hpos : (10 * i + j) % 10 = j := by omega
  simp only [alineDominant, hbit, hbyte, hpos, hb]
  rw [List.getElem?_eq_getElem hi, List.getD_eq_getElem _ _ hi]
  simp

/-- After the last byte of the frame the line is left recessive. -/
theorem alineDominant_after {s : State} {bytes : List Byte} {began : Nat} (hb : lineBytes s = bytes)
    (hf : frameBegan s = began) (h : began + 1600 * bytes.length ≤ s.clk) : alineDominant s = false := by
  have hbyte : bytes.length ≤ (s.clk - frameBegan s) / us 4 / 10 := by
    rw [hf, Nat.div_div_eq_div_mul, Nat.le_div_iff_mul_le (by decide)]
    unfold us
    omega
  simp only [alineDominant, hb]
  rw [List.getElem?_eq_none hbyte]
  rfl

theorem alineDominant_silent {s : State} (hb : lineBytes s = []) : alineDominant s = false := by
  simp [alineDominant, hb]

theorem extractLsb'_ofNat (n k : Nat) :
    (BitVec.ofNat 32 n).extractLsb' k 8 = BitVec.ofNat 8 (n % 2 ^ 32 / 2 ^ k) := by
  apply BitVec.eq_of_toNat_eq
  simp [Nat.shiftRight_eq_div_pow]

/-- The four bytes of a word, the most significant first (R187). -/
theorem beBytes_four (n : Nat) :
    let x : Word := BitVec.ofNat 32 n
    beBytes 4 (n % 2 ^ 32) = [x.extractLsb' 24 8, x.extractLsb' 16 8, x.extractLsb' 8 8, x.extractLsb' 0 8] := by
  simp only [beBytes, List.nil_append, List.cons_append, extractLsb'_ofNat, Nat.div_div_eq_div_mul,
    pow_zero, Nat.div_one]
  rfl

/-- Settles O31: the receiver fall by fall, a whole reply by induction on its bytes, and ALINE by the bit it is in. -/
theorem bytesGoOverTheLineBitByBit : Obligations.BytesGoOverTheLineBitByBit := by
  refine ⟨fun b => ⟨lineBits_start b, fun i h => lineBits_data b h, lineBits_stop b⟩, receive_nil, ?_, fun falls more =>
    ⟨fun n h => receive_settled (take_failed n) h more, fun bytes h => receive_settled (take_complete bytes) h more⟩,
    fun count rest hc hl => receive_whole hc hl, fun s hr => ⟨?_, ?_, ?_⟩⟩
  · intro falls bytes f hw taken h
    have hlen : taken.length = bytes.length + 1 := by simp [taken]
    rw [receive_snoc, hw]
    refine ⟨take_glitch, fun h0 h9 => hlen ▸ take_framingFault h0 h9, fun h0 h9 h7 => ?_, fun h0 h9 h7 hl => ?_,
      fun h0 h9 h7 hl => ?_⟩
    · exact (take_byte h0 h9).trans (receptionOf_badCount h7)
    · exact (take_byte h0 h9).trans (receptionOf_complete h7 hl)
    · exact (take_byte h0 h9).trans (receptionOf_waiting h7 hl)
  · intro p began counted hf
    have hb : lineBytes s = [byte (0xA0 + p.val)] := by
      simp only [lineBytes, hr, hf]
      rfl
    have hbegan : frameBegan s = began := by simp only [frameBegan, hf]
    refine ⟨fun j hj hlo hhi => ?_, fun h => alineDominant_after hb hbegan (by simpa using h)⟩
    have hbit := alineDominant_bit (i := 0) hb hbegan Nat.zero_lt_one hj (by omega) (by omega)
    rwa [List.getD_cons_zero] at hbit
  · intro began hf time sent
    have hb : lineBytes s = sent := by
      simp only [lineBytes, hr, hf]
      exact congrArg (0xB0 :: ·) (beBytes_four _)
    have hbegan : frameBegan s = began := by simp only [frameBegan, hf]
    have hlen : sent.length = 5 := rfl
    exact ⟨fun i j hi hj hlo hhi => alineDominant_bit hb hbegan (by omega) hj hlo hhi,
      fun h => alineDominant_after hb hbegan (by omega)⟩
  · intro hpoll htime
    refine alineDominant_silent ?_
    unfold lineBytes
    split
    · rfl
    · split
      next p began counted hf => exact absurd hf (hpoll p began counted)
      next began hf => exact absurd hf (htime began)
      all_goals rfl

end Sys2Proof.Machine
end

section
/-! The outcomes of a poll: how each is counted, when a reply fails, and how a complete reply is judged. -/

namespace Sys2Proof.Machine

/-! ## The counting of an outcome (R102) -/

/-- A failed poll: one more in a row, the eighth making the pod LOST (R102). -/
theorem polled_failed {o : PollOutcome} (hn : o ≠ .none) (hg : o ≠ .good) (a : APod) :
    a.polled o =
      { a with
        consecutiveFails := satInc 255 a.consecutiveFails
        state := if 8 ≤ satInc 255 a.consecutiveFails then .lost else a.state
        lastOutcome := o
        frameErrors :=
          if o = .gap ∨ o = .frameError ∨ o = .badCheck then satInc max32 a.frameErrors else a.frameErrors } := by
  cases o with
  | none => exact absurd rfl hn
  | good => exact absurd rfl hg
  | _ => rfl

theorem pollOutcome_uncounted {p : Fin 16} {counted : Bool} {s : State}
    (h : counted = false ∨ s.apods[p].enabled = false) (o : PollOutcome) : pollOutcome p counted o s = s := by
  refine if_neg fun hc => ?_
  obtain ⟨hcount, he⟩ := Bool.and_eq_true_iff.mp hc
  rcases h with h | h
  · rw [h] at hcount
    cases hcount
  · rw [h] at he
    cases he

theorem pollOutcome_counted {p : Fin 16} {s : State} (he : s.apods[p].enabled = true) (o : PollOutcome) :
    pollOutcome p true o s = putAPod p (s.apods[p].polled o) s :=
  if_pos (by rw [he]; rfl)

theorem pollOutcome_failed {p : Fin 16} {s : State} (he : s.apods[p].enabled = true) {o : PollOutcome}
    (hn : o ≠ .none) (hg : o ≠ .good) :
    let x := s.apods[p]
    let fails := satInc 255 x.consecutiveFails
    ∃ state : APodState, (state = if 8 ≤ fails then .lost else x.state) ∧
      pollOutcome p true o s =
        { s with
          apods :=
            s.apods.set p
              { x with
                consecutiveFails := fails
                state := state
                lastOutcome := o
                frameErrors :=
                  if o = .gap ∨ o = .frameError ∨ o = .badCheck then satInc max32 x.frameErrors else x.frameErrors }
          marks :=
            { s.marks with
              apod := s.marks.apod.set p (s.marks.apod[p] || decide (state ≠ x.state)) } } := by
  refine ⟨_, rfl, ?_⟩
  rw [pollOutcome_counted he, polled_failed hn hg, putAPod_eq]

theorem pollOutcome_good {p : Fin 16} {s : State} (he : s.apods[p].enabled = true) :
    pollOutcome p true .good s =
      { s with
        apods := s.apods.set p { s.apods[p] with consecutiveFails := 0, state := .ok, lastOutcome := .good }
        marks :=
          { s.marks with
            apod := s.marks.apod.set p (s.marks.apod[p] || decide (s.apods[p].state ≠ .ok)) } } := by
  have hmark : decide (APodState.ok ≠ s.apods[p].state) = decide (s.apods[p].state ≠ .ok) :=
    decide_eq_decide.mpr ne_comm
  have hpod : s.apods[p].polled .good =
      { s.apods[p] with consecutiveFails := 0, state := .ok, lastOutcome := .good } := rfl
  rw [pollOutcome_counted he, hpod, putAPod_eq, hmark]

/-! ## Failed replies (R99) -/

section
variable {p : Fin 16} {began : Nat} {counted : Bool} {falls : List LineFall} {s : State}

theorem replyTimeout_silent (hf : s.line.frame = .poll p began counted) (h : receive falls = .waiting []) :
    replyTimeout falls s =
      frameEnd began (pollOutcome p counted .silent { s with clk := max s.clk (began + 4000) }) := by
  simp only [replyTimeout, hf, h]
  rfl

theorem replyTimeout_gap {bytes : List Byte} (hf : s.line.frame = .poll p began counted)
    (h : receive falls = .waiting bytes) (hb : bytes ≠ []) :
    replyTimeout falls s =
      frameEnd began
        (pollOutcome p counted .gap { s with clk := max s.clk (began + 40 * (120 + 40 * bytes.length)) }) := by
  obtain ⟨b, rest, rfl⟩ := List.exists_cons_of_ne_nil hb
  simp only [replyTimeout, hf, h]
  rfl

/-- The falls tell of a byte that fails, in whichever of the two commands they come. -/
theorem reply_fails {n : Nat} (hf : s.line.frame = .poll p began counted) (h : receive falls = .failed n) :
    replyTimeout falls s = replyFails p began counted n s ∧ replyReceived falls s = replyFails p began counted n s := by
  simp only [replyTimeout, replyReceived, hf, h, and_self]

end

/-! ## Contention (R92) -/

/-- The bit whose middle comes next or is now. -/
theorem nextBit_eq {began bit : Nat} {s : State} (h : s.clk ≤ began + 40 * (4 * bit + 2))
    (hbefore : bit = 0 ∨ began + 40 * (4 * bit - 2) < s.clk) : nextBit began s = bit := by
  refine le_antisymm ((nextBit_le_iff began bit s).mpr h) ?_
  rcases bit with _ | bit
  · exact Nat.zero_le _
  · refine Nat.succ_le_of_lt (lt_of_not_ge fun hle => ?_)
    have hmiddle := (nextBit_le_iff began bit s).mp hle
    unfold bitMiddle us at hmiddle
    omega

/-- After the middle of the last of n bits no bit is left (R92, assumption log 9). -/
theorem nextBit_past {began n : Nat} {s : State} (h : began + 40 * (4 * n + 2) < s.clk) : ¬nextBit began s < n + 1 :=
  fun hlt => absurd ((nextBit_le_iff began n s).mp (Nat.le_of_lt_succ hlt)) (Nat.not_le.mpr h)

section
variable {began bit : Nat} {s : State}

theorem contention_poll {p : Fin 16} {counted : Bool} (hf : s.line.frame = .poll p began counted) (hbit : bit < 10)
    (h : s.clk ≤ began + 40 * (4 * bit + 2)) (hbefore : bit = 0 ∨ began + 40 * (4 * bit - 2) < s.clk) :
    contention s =
      beginQuiet began
        (pollOutcome p counted .contention
          { s with
            clk := began + 40 * (4 * bit + 2)
            crackset := { s.crackset with contentionCount := satInc max32 s.crackset.contentionCount } }) := by
  simp only [contention, hf, nextBit_eq h hbefore, if_pos hbit]
  rw [passTo, bitMiddle, us, max_eq_right h]
  rfl

theorem contention_time (hf : s.line.frame = .time began) (hbit : bit < 50)
    (h : s.clk ≤ began + 40 * (4 * bit + 2)) (hbefore : bit = 0 ∨ began + 40 * (4 * bit - 2) < s.clk) :
    contention s =
      { s with
        clk := began + 40 * (4 * bit + 2)
        crackset := { s.crackset with contentionCount := satInc max32 s.crackset.contentionCount }
        line := { s.line with frame := .quiet began (began + 40 * (4 * bit + 2)) } } := by
  simp only [contention, hf, nextBit_eq h hbefore, if_pos hbit]
  rw [passTo, bitMiddle, us, max_eq_right h]
  rfl

theorem contention_poll_past {p : Fin 16} {counted : Bool} (hf : s.line.frame = .poll p began counted)
    (h : began + 40 * 38 < s.clk) : contention s = s := by
  simp only [contention, hf, if_neg (nextBit_past (n := 9) h)]

theorem contention_time_past (hf : s.line.frame = .time began) (h : began + 40 * 198 < s.clk) : contention s = s := by
  simp only [contention, hf, if_neg (nextBit_past (n := 49) h)]

end

/-! ## Complete replies (R99, R100, R187) -/

/-- The five bytes of a hit in a reply (R99, R187). -/
def hitBytes (h : Word × Byte) : List Byte :=
  [h.1.extractLsb' 24 8, h.1.extractLsb' 16 8, h.1.extractLsb' 8 8, h.1.extractLsb' 0 8, h.2]

/-- The hit that those bytes stand for. -/
def hitOf (h : Word × Byte) : Hit := { time := h.1, amp := h.2.toNat }

/-- A timestamp is read from its four bytes as it was sent (R187). -/
theorem word_of_bytes (w : Word) :
    BitVec.ofNat 32
      ((((w.extractLsb' 24 8).toNat * 256 + (w.extractLsb' 16 8).toNat) * 256 + (w.extractLsb' 8 8).toNat) * 256 +
        (w.extractLsb' 0 8).toNat) = w := by
  apply BitVec.eq_of_toNat_eq
  simp [Nat.shiftRight_eq_div_pow]
  omega

/-- The hits of a reply are read as they were sent (R99, R187). -/
theorem replyHits_hitBytes (hits : List (Word × Byte)) {n : Nat} (h : hits.length ≤ n) :
    replyHits n (hits.flatMap hitBytes) = hits.map hitOf := by
  induction hits generalizing n with
  | nil => cases n <;> rfl
  | cons hit hits ih =>
    obtain ⟨m, rfl⟩ : ∃ m, n = m + 1 := ⟨n - 1, by rw [List.length_cons] at h; omega⟩
    simp only [List.flatMap_cons, hitBytes, List.cons_append, List.nil_append, replyHits, word_of_bytes, List.map_cons]
    exact congrArg _ (ih (by simpa using h))

/-- What the receiver calls complete has come to its check byte (R99). -/
theorem replyComplete_of_receive {falls : List LineFall} {bytes : List Byte} (h : receive falls = .complete bytes) :
    replyComplete bytes = true := by
  induction falls using List.reverseRecOn with
  | nil => cases h
  | append_singleton falls f ih =>
    rw [receive_snoc] at h
    cases hr : receive falls with
    | failed n => rw [hr] at h; cases h
    | complete before => exact ih (hr.trans (by rw [hr] at h; exact h))
    | waiting before =>
      rw [hr] at h
      unfold Reception.take at h
      simp only at h
      split_ifs at h with _ _ _ hc
      cases h
      exact hc

section
variable {count check : Byte} {hits : List (Word × Byte)}

/-- The bytes of a reply without its check byte: the hit count and flag, and the hits (R99). -/
def replyBody (count : Byte) (hits : List (Word × Byte)) : List Byte := count :: hits.flatMap hitBytes

theorem replyHits_reply (h : hits.length ≤ 6) :
    replyHits 6 (replyBody count hits ++ [check]).tail.dropLast = hits.map hitOf := by
  rw [replyBody, List.cons_append, List.tail_cons, List.dropLast_concat]
  exact replyHits_hitBytes hits h

/-- The judgement of R100 in its order, on the reply as it was sent. -/
theorem judgeReply_eq (h : hits.length ≤ 6) :
    judgeReply (replyBody count hits ++ [check]) =
      if crc8 (replyBody count hits) ≠ check then .badCheck
      else if ∃ h ∈ hits, 100 < h.2.toNat then .frameError else .good := by
  have hany : ((hits.map hitOf).any fun h => decide (100 < h.amp)) = true ↔ ∃ h ∈ hits, 100 < h.2.toNat := by
    rw [List.any_map, List.any_eq_true]
    exact exists_congr fun h => and_congr_right fun _ => decide_eq_true_iff
  simp only [judgeReply, List.dropLast_concat, List.getLastD_concat, replyHits_reply h, hany]

end

/-- A reply that is not GOOD begins the quiet wait (R101). -/
theorem takeReply_failed {p : Fin 16} {counted : Bool} {reply : List Byte} {o : PollOutcome}
    (h : judgeReply reply = o) (ho : o ≠ .good) (began : Nat) (s : State) :
    takeReply p began counted reply s = beginQuiet began (pollOutcome p counted o s) := by
  unfold takeReply
  split
  next hg => exact absurd (h.symm.trans hg) ho
  · rw [h]

theorem takeReply_uncounted {p : Fin 16} {counted : Bool} {reply : List Byte} {s : State}
    (h : judgeReply reply = .good) (hc : counted = false ∨ s.apods[p].enabled = false) (began : Nat) :
    takeReply p began counted reply s = frameEnd began s := by
  have hnot : ¬(counted && s.apods[p].enabled) = true := by
    rcases hc with hc | hc <;> simp [hc, - Fin.getElem_fin]
  simp only [takeReply, h, if_neg hnot]

theorem takeReply_good {p : Fin 16} {reply : List Byte} {s : State} (h : judgeReply reply = .good)
    (he : s.apods[p].enabled = true) (began : Nat) :
    takeReply p began true reply s = frameEnd began (goodReply p reply s) := by
  have hcount : (true && s.apods[p].enabled) = true := by rw [he]; rfl
  simp only [takeReply, h, if_pos hcount]

/-- A GOOD reply is counted, its overflow flag too, and its hits are handed on in order (R100). -/
theorem goodReply_eq {count check : Byte} {hits : List (Word × Byte)} (h : hits.length ≤ 6) (p : Fin 16) (s : State) :
    let u := pollOutcome p true .good s
    let v : State :=
      { u with
        apods :=
          if count.toNat < 128 then u.apods
          else u.apods.set p { u.apods[p] with podOverflows := satInc max32 u.apods[p].podOverflows } }
    goodReply p (replyBody count hits ++ [check]) s =
      hits.foldl (fun w h => hitArrival p { time := h.1, amp := h.2.toNat } w) v := by
  intro u v
  have hhead : ((replyBody count hits ++ [check]).headD 0).toNat = count.toNat := rfl
  have hflag : (if 128 ≤ count.toNat then
      setAPod p { u.apods[p] with podOverflows := satInc max32 u.apods[p].podOverflows } u else u) = v := by
    by_cases hc : count.toNat < 128
    · simp only [v, if_pos hc, if_neg (Nat.not_le.mpr hc)]
    · simp only [v, if_neg hc, if_pos (Nat.le_of_not_lt hc)]
      rfl
  simp only [goodReply, replyHits_reply h, hhead, List.foldl_map]
  exact congrArg (List.foldl _ · hits) hflag

/-! ## The commands -/

/-- A complete reply whose hits are as many as its count byte says has at most six of them (R99). -/
theorem hits_le_six {falls : List LineFall} {count check : Byte} {hits : List (Word × Byte)}
    (h : receive falls = .complete (replyBody count hits ++ [check])) (hc : count.toNat % 8 = hits.length) :
    hits.length ≤ 6 := by
  obtain ⟨-, hcount, -⟩ := (replyComplete_iff _).mp (replyComplete_of_receive h)
  exact hc ▸ hcount

/-- REPLY_RECEIVED of a complete reply: its last bit ends 40 µs after the poll and 40 µs for each byte (R99). -/
theorem exec_replyReceived {p : Fin 16} {began : Nat} {counted : Bool} {falls : List LineFall} {body : List Byte}
    {check : Byte} {s : State} (hr : s.inReset = false) (hf : s.line.frame = .poll p began counted)
    (h : receive falls = .complete (body ++ [check])) :
    exec (.replyReceived falls) s =
      .next
        (takeReply p began counted (body ++ [check])
          { s with clk := max s.clk (began + 40 * (40 + 40 * (body.length + 1))) }) := by
  refine (event_out hr).trans ?_
  simp only [replyReceived, hf, h, List.length_append, List.length_singleton]
  rfl

/-- A reply that fails at its n-th byte is a FRAME_ERROR at the middle of that byte's stop bit (R99). -/
theorem exec_reply_failed {p : Fin 16} {began : Nat} {counted : Bool} {s : State} (hr : s.inReset = false)
    (hf : s.line.frame = .poll p began counted) {falls : List LineFall} {n : Nat} (h : receive falls = .failed n) :
    let t := pollOutcome p counted .frameError { s with clk := max s.clk (began + 40 * (38 + 40 * n)) }
    let u : State := { t with line := { t.line with frame := .quiet began t.clk } }
    exec (.replyTimeout falls) s = .next u ∧ exec (.replyReceived falls) s = .next u := by
  obtain ⟨htimeout, hreceived⟩ := reply_fails hf h
  exact ⟨(event_out hr).trans (congrArg _ htimeout), (event_out hr).trans (congrArg _ hreceived)⟩

/-- Settles O32: the outcome is counted by one replacement of the record, and each command is told of the falls or the
bit that bring it about. -/
theorem pollOutcomesAreCounted : Obligations.PollOutcomesAreCounted := by
  refine ⟨⟨fun p counted o s => ?_, fun p began counted falls s hr hf => ?_⟩, ?_, fun began s hr hf => ?_⟩
  · intro x fails
    refine ⟨fun h => pollOutcome_uncounted h o, fun hc he hn hg => ?_, fun hc he ho => ?_⟩
    · subst hc
      exact pollOutcome_failed he hn hg
    · subst hc ho
      exact pollOutcome_good he
  · refine ⟨fun h => ?_, fun bytes h hb => ?_, fun n h => exec_reply_failed hr hf h, fun t ht => ?_, fun h => ?_,
      fun bit hbit h hbefore => ?_⟩
    · exact (event_out hr).trans (congrArg _ (replyTimeout_silent hf h))
    · exact (event_out hr).trans (congrArg _ (replyTimeout_gap hf h hb))
    · subst ht
      refine (event_out hr).trans ?_
      rw [replyFrameError, hf]
      rfl
    · exact (event_out hr).trans (congrArg _ (contention_poll_past hf h))
    · exact (event_out hr).trans (congrArg _ (contention_poll hf hbit h hbefore))
  · intro p began counted s count check hits falls body t hr hf h hc
    have hsix := hits_le_six h hc
    have hexec : exec (.replyReceived falls) s = .next (takeReply p began counted (body ++ [check]) t) :=
      exec_replyReceived hr hf h
    have hjudge := judgeReply_eq (count := count) (check := check) hsix
    rw [hexec]
    refine ⟨fun hbad => ?_, fun hcheck hloud => ?_, fun hcheck hquiet => ?_⟩
    · exact congrArg _ (takeReply_failed (hjudge.trans (if_pos hbad)) (by decide) began t)
    · have hframe := hjudge.trans ((if_neg (not_not.mpr hcheck)).trans (if_pos hloud))
      exact congrArg _ (takeReply_failed hframe (by decide) began t)
    · have hnone : ¬∃ h ∈ hits, 100 < h.2.toNat := fun ⟨h, hm, hlt⟩ => absurd hlt (Nat.not_lt.mpr (hquiet h hm))
      have hgood := hjudge.trans ((if_neg (not_not.mpr hcheck)).trans (if_neg hnone))
      refine ⟨fun hun => congrArg _ (takeReply_uncounted (s := t) hgood hun began), fun hcount he => ?_⟩
      subst hcount
      intro u v
      have hhits := goodReply_eq (count := count) (check := check) hsix p t
      exact congrArg _ ((takeReply_good (s := t) hgood he began).trans (congrArg (frameEnd began) hhits))
  · refine ⟨fun h => ?_, fun bit hbit h hbefore => ?_⟩
    · exact (event_out hr).trans (congrArg _ (contention_time_past hf h))
    · exact (event_out hr).trans (congrArg _ (contention_time hf hbit h hbefore))

end Sys2Proof.Machine
end

section
/-! The statement about request pulses and the stuck line. -/

namespace Sys2Proof.Machine

/-- A pulse on the idle line of a length that counts (R103). -/
theorem requestPulse_counts {s : State} {usec : Nat} (hlo : 100 ≤ usec) (hhi : usec < 5000)
    (hok : s.crackset.lineState = .ok) (hidle : lineIdle s = true) : requestPulse usec s = requestSweep s :=
  if_pos ⟨hok, hidle, hlo, hhi⟩

theorem requestPulse_ignored {s : State} {usec : Nat} (h : s.crackset.lineState = .stuck ∨ lineIdle s = false) :
    requestPulse usec s = s := by
  refine if_neg fun ⟨hok, hidle, _⟩ => ?_
  rcases h with h | h
  · rw [h] at hok
    cases hok
  · rw [h] at hidle
    cases hidle

/-- A sweep in progress takes no further pulse (R103). -/
theorem requestSweep_in_progress {s : State} (h : s.line.sweep ≠ .off) : requestSweep s = s := by
  unfold requestSweep
  split
  · rfl
  next hoff => exact absurd hoff h

/-- A POLL held back by the pulse is to be chosen again, from the round-robin position before its slot (R93). -/
theorem requestSweep_held {s : State} {q before : Fin 16} (h : s.line.sweep = .off)
    (hf : s.line.frame = .held (.poll q before)) :
    requestSweep s = { s with line := { s.line with sweep := .on none, rr := before, frame := .held .again } } := by
  unfold requestSweep
  rw [h, hf]
  rfl

theorem requestSweep_starts {s : State} (h : s.line.sweep = .off)
    (hf : ∀ q before, s.line.frame ≠ .held (.poll q before)) :
    requestSweep s = { s with line := { s.line with sweep := .on none } } := by
  cases hframe : s.line.frame with
  | held held =>
    cases held with
    | poll q before => exact absurd hframe (hf q before)
    | _ =>
      simp only [requestSweep, h, hframe]
      rfl
  | _ =>
    simp only [requestSweep, h, hframe]
    rfl

/-- The line returns to OK and its first slot opens at once (R104). -/
theorem lineRecovered_eq {s : State} (h : s.crackset.lineState = .stuck) :
    let clk := max s.clk (s.line.stuckSince + 400000)
    lineRecovered s =
      openSlot false
        { s with
          clk := clk
          crackset := { s.crackset with lineState := .ok }
          marks := { s.marks with crackset := true }
          line := { s.line with nextSlot := clk } } := by
  have hne : (passTo (s.line.stuckSince + us 10000) s).crackset.lineState ≠ .ok := by
    rw [passTo_crackset, h]
    decide
  simp only [lineRecovered, if_pos h, setLineState_of_ne hne]
  rfl

/-- Settles O33: each event by the state of the line, and LINE_STUCK by its one equation for every frame. -/
theorem pulsesAndStuckLines : Obligations.PulsesAndStuckLines := by
  intro s hr
  have hpulse (usec : Nat) : exec (.requestPulse usec) s = .next (requestPulse usec s) := event_out hr
  have hstuckExec : exec .lineStuck s = .next (if s.crackset.lineState = .ok then enterStuck s else s) := event_out hr
  refine ⟨fun usec hlo hhi hok hidle => ?_, fun usec h => ?_, fun hok => ?_, fun hstuck => ⟨?_, ?_⟩⟩
  · rw [hpulse, requestPulse_counts hlo hhi hok hidle]
    exact ⟨fun h => congrArg _ (requestSweep_in_progress h), fun q before h hf => congrArg _ (requestSweep_held h hf),
      fun h hf => congrArg _ (requestSweep_starts h hf)⟩
  · rw [hpulse, requestPulse_ignored h]
  · rw [hstuckExec, if_pos hok, enterStuck_eq hok]
    exact ⟨_, rfl, rfl, fun hidle => if_pos hidle, fun hidle => if_neg (by rw [hidle]; decide)⟩
  · rw [hstuckExec, if_neg (by rw [hstuck]; decide)]
  · have hexec : exec .lineRecovered s = .next (lineRecovered s) := event_out hr
    rw [hexec, lineRecovered_eq hstuck]
    exact ⟨fun hd => congrArg _ (openSlot_time (by exact hd)),
      fun hd => congrArg _ (openSlot_poll (by exact hd) false)⟩

end Sys2Proof.Machine
end

section
/-! POD_COUNTERS_CLEAR: what a selector reaches, and the statement about it. -/

namespace Sys2Proof.Machine

theorem podCountersRequest_key {sel : Byte} {p : Fin 16} (h : sel.toNat = p.val) (s : State) :
    podCountersRequest sel s = (ok, setAPod p s.apods[p].clearCounters s) := by
  simp [podCountersRequest, h]

theorem podCountersRequest_all (s : State) :
    podCountersRequest 0xFF s = (ok, { s with apods := mapBank (fun _ a => a.clearCounters) s.apods }) := rfl

theorem podCountersRequest_badKey {sel : Byte} (hk : 16 ≤ sel.toNat) (ha : sel ≠ 0xFF) (s : State) :
    podCountersRequest sel s = (refuse .badKey, s) := by
  rw [podCountersRequest, dif_neg (Nat.not_lt.mpr hk), if_neg ha]

/-- Settles O27: one pod, every pod or none, by the selector. -/
theorem podCountersAreCleared : Obligations.PodCountersAreCleared := by
  unfold Obligations.PodCountersAreCleared
  intro cleared
  have hcleared : cleared = APod.clearCounters := by
    funext a
    cases hs : a.slot <;> simp [cleared, APod.clearCounters, hs]
  have hexec (sel : Byte) (s : State) :
      exec (.podCountersClear sel) s = request (.podCountersClear sel) (podCountersRequest sel) s := rfl
  rw [hcleared]
  refine ⟨fun s p hd => ?_, fun s hd => ?_, fun s sel hd hk ha => ?_⟩
  · rw [hexec, request_due hd, podCountersRequest_key (byte_toNat (show p.val < 256 by omega))]
    rfl
  · rw [hexec, request_due hd, podCountersRequest_all]
    exact ⟨_, rfl, rfl, fun p => mapBank_getElem _ _ _ _⟩
  · exact (hexec sel s).trans (request_due_idle hd (podCountersRequest_badKey hk ha s))

end Sys2Proof.Machine
end

section
/-! The operations of the hit locator: the neighbours of a pod, the ages of their slot hits, the choice of a partner,
and what a pair and a held hit leave. -/

namespace Sys2Proof.Machine

/-! ## Neighbours (R114) -/

/-- Where no two members of a list share a key, the member of greatest key is the only one that none exceeds. -/
theorem argmax_eq_some_of_injOn {α β : Type} [DecidableEq α] [LinearOrder β] {f : α → β} {l : List α}
    (hf : Set.InjOn f {a | a ∈ l}) {m : α} : l.argmax f = some m ↔ m ∈ l ∧ ∀ a ∈ l, f a ≤ f m := by
  rw [List.argmax_eq_some_iff]
  refine and_congr_right fun hm => and_iff_left_of_imp fun hmax a ha hle => ?_
  rw [hf ha hm (le_antisymm (hmax a ha) hle)]

theorem lowerNeighbour_eq (p : Fin 16) (s : State) :
    lowerNeighbour p s =
      ((List.finRange 16).filter fun q =>
        s.apods[q].enabled && decide (s.apods[q].positionMm < s.apods[p].positionMm)).argmax
        fun q => s.apods[q].positionMm := by
  rw [List.argmax, List.foldl_filter]
  refine congrArg (List.foldl · none _) (funext₂ fun best q => ?_)
  cases best <;> rfl

/-- The pod of least position is the greatest in the order of positions reversed. -/
theorem upperNeighbour_eq (p : Fin 16) (s : State) :
    upperNeighbour p s =
      ((List.finRange 16).filter fun q =>
        s.apods[q].enabled && decide (s.apods[p].positionMm < s.apods[q].positionMm)).argmax
        fun q => OrderDual.toDual s.apods[q].positionMm := by
  rw [List.argmax, List.foldl_filter]
  refine congrArg (List.foldl · none _) (funext₂ fun best q => ?_)
  cases best <;> rfl

/-- No two enabled pods share a position, so no two of a choice of them do (R106). -/
theorem Apart.injOn {s : State} (h : Apart s) (P : Fin 16 → Bool) :
    Set.InjOn (fun q => s.apods[q].positionMm)
      {q | q ∈ (List.finRange 16).filter fun q => s.apods[q].enabled && P q} := by
  intro a ha b hb hab
  simp only [Set.mem_ofPred_eq, List.mem_filter, Bool.and_eq_true] at ha hb
  obtain ⟨-, hea, -⟩ := ha
  obtain ⟨-, heb, -⟩ := hb
  by_contra hne
  exact h a b hne hea heb hab

theorem lowerNeighbour_eq_some {p q : Fin 16} {s : State} (h : Apart s) :
    lowerNeighbour p s = some q ↔ LowerNeighbour s p q := by
  rw [lowerNeighbour_eq, argmax_eq_some_of_injOn (h.injOn _)]
  simp only [LowerNeighbour, List.mem_filter, List.mem_finRange, true_and, Bool.and_eq_true, decide_eq_true_eq,
    and_assoc, and_imp]

theorem upperNeighbour_eq_some {p q : Fin 16} {s : State} (h : Apart s) :
    upperNeighbour p s = some q ↔ UpperNeighbour s p q := by
  have hinj := OrderDual.toDual.injective.comp_injOn (h.injOn fun q => s.apods[p].positionMm < s.apods[q].positionMm)
  refine (congrArg (· = some q) (upperNeighbour_eq p s)).to_iff.trans ((argmax_eq_some_of_injOn hinj).trans ?_)
  simp only [UpperNeighbour, List.mem_filter, List.mem_finRange, true_and, Bool.and_eq_true, decide_eq_true_eq,
    and_assoc, and_imp, Function.comp_apply, OrderDual.toDual_le_toDual]

/-- Pod q is a neighbour of pod p (R114). -/
def Neighbour (s : State) (p q : Fin 16) : Prop := LowerNeighbour s p q ∨ UpperNeighbour s p q

theorem neighbour_iff {p q : Fin 16} {s : State} (h : Apart s) :
    Neighbour s p q ↔ lowerNeighbour p s = some q ∨ upperNeighbour p s = some q :=
  or_congr (lowerNeighbour_eq_some h).symm (upperNeighbour_eq_some h).symm

theorem Neighbour.ne {p q : Fin 16} {s : State} (h : Neighbour s p q) : q ≠ p := by
  rintro rfl
  rcases h with ⟨-, hlt, -⟩ | ⟨-, hlt, -⟩ <;> exact lt_irrefl _ hlt

theorem LowerNeighbour.ne_upper {p q r : Fin 16} {s : State} (hl : LowerNeighbour s p q) (hu : UpperNeighbour s p r) :
    q ≠ r := by
  rintro rfl
  obtain ⟨-, hbelow, -⟩ := hl
  obtain ⟨-, habove, -⟩ := hu
  exact Nat.lt_asymm hbelow habove

/-- Which pods are neighbours is told by their places alone. -/
theorem Places.lowerNeighbour {s t : State} (h : Places s t) (p q : Fin 16) :
    LowerNeighbour t p q ↔ LowerNeighbour s p q := by
  simp only [LowerNeighbour, h.enabled, h.position]

theorem Places.upperNeighbour {s t : State} (h : Places s t) (p q : Fin 16) :
    UpperNeighbour t p q ↔ UpperNeighbour s p q := by
  simp only [UpperNeighbour, h.enabled, h.position]

theorem Places.neighbour {s t : State} (h : Places s t) (p q : Fin 16) : Neighbour t p q ↔ Neighbour s p q :=
  or_congr (h.lowerNeighbour p q) (h.upperNeighbour p q)

/-! ## Ages (R113, R115) -/

theorem tooOld_iff {time : Word} {s : State} : tooOld time s = true ↔ TooOld s time := decide_eq_true_iff

theorem expired_of_tooOld {a : APod} {k : Hit} {s : State} (hs : a.slot = some k) (h : TooOld s k.time) :
    a.expired s = a.dropSlot := by
  unfold APod.expired
  rw [hs]
  exact if_pos h

theorem expired_of_fresh {a : APod} {s : State} (h : ∀ k, a.slot = some k → ¬TooOld s k.time) : a.expired s = a := by
  unfold APod.expired
  cases hs : a.slot with
  | none => rfl
  | some k => exact if_neg (h k hs)

/-- A slot hit that has been examined for its age is there still if it is not too old. -/
theorem slot_expired {a : APod} {k : Hit} {s : State} :
    (a.expired s).slot = some k ↔ a.slot = some k ∧ ¬TooOld s k.time := by
  by_cases h : ∃ e, a.slot = some e ∧ TooOld s e.time
  · obtain ⟨e, hs, hold⟩ := h
    rw [expired_of_tooOld hs hold, hs, Option.some_inj]
    exact iff_of_false nofun fun ⟨he, hfresh⟩ => hfresh (he ▸ hold)
  · push Not at h
    rw [expired_of_fresh h]
    exact (and_iff_left_of_imp (h k)).symm

/-- One neighbour's slot, where there is that neighbour, is examined for the age of its hit (R115). -/
def examine (o : Option (Fin 16)) (s : State) : State := (o.map fun q => expireSlot q s).getD s

theorem examine_some (q : Fin 16) (s : State) : examine (some q) s = setAPod q (s.apods[q].expired s) s :=
  expireSlot_eq q s

theorem examine_frame (o : Option (Fin 16)) (s : State) : examine o s = { s with apods := (examine o s).apods } := by
  cases o with
  | none => rfl
  | some q =>
    rw [examine_some]
    rfl

theorem apod_examine (o : Option (Fin 16)) (q : Fin 16) (s : State) :
    (examine o s).apods[q] = if o = some q then s.apods[q].expired s else s.apods[q] := by
  cases o with
  | none => rfl
  | some r =>
    rw [examine_some, apod_setAPod]
    by_cases h : r = q
    · rw [if_pos h, if_pos (congrArg some h), h]
    · rw [if_neg h, if_neg fun hrq => h (Option.some.inj hrq)]

/-- The slots of both neighbours of pod p are examined, the lower one's first (R115). -/
def examineNeighbours (p : Fin 16) (s : State) : State :=
  examine (upperNeighbour p s) (examine (lowerNeighbour p s) s)

theorem examineNeighbours_frame (p : Fin 16) (s : State) :
    examineNeighbours p s = { s with apods := (examineNeighbours p s).apods } := by
  unfold examineNeighbours
  rw [examine_frame (upperNeighbour p s), examine_frame (lowerNeighbour p s) s]

theorem places_examineNeighbours (p : Fin 16) (s : State) : Places s (examineNeighbours p s) :=
  ((PodsKeep.expireNeighbour (lowerNeighbour p s) s).trans (.expireNeighbour (upperNeighbour p s) _)).toPlaces

theorem apod_examineNeighbours_of_neighbour {p q : Fin 16} {s : State} (ha : Apart s) (h : Neighbour s p q) :
    (examineNeighbours p s).apods[q] = s.apods[q].expired s := by
  have hexpired (t : State) (ht : t = { s with apods := t.apods }) (a : APod) : a.expired t = a.expired s := by
    rw [ht]
    rfl
  rw [examineNeighbours, apod_examine, apod_examine, hexpired _ (examine_frame _ s)]
  rcases h with h | h
  · have hu : upperNeighbour p s ≠ some q := fun hu => h.ne_upper ((upperNeighbour_eq_some ha).mp hu) rfl
    rw [if_neg hu, if_pos ((lowerNeighbour_eq_some ha).mpr h)]
  · have hl : lowerNeighbour p s ≠ some q := fun hl => ((lowerNeighbour_eq_some ha).mp hl).ne_upper h rfl
    rw [if_pos ((upperNeighbour_eq_some ha).mpr h), if_neg hl]

theorem apod_examineNeighbours_of_not {p q : Fin 16} {s : State} (ha : Apart s) (h : ¬Neighbour s p q) :
    (examineNeighbours p s).apods[q] = s.apods[q] := by
  rw [neighbour_iff ha, not_or] at h
  rw [examineNeighbours, apod_examine, if_neg h.2, apod_examine, if_neg h.1]

/-- The slot hit of a neighbour q of pod p is too old (R115). -/
def Expires (s : State) (p q : Fin 16) : Prop := Neighbour s p q ∧ ∃ k, s.apods[q].slot = some k ∧ TooOld s k.time

theorem apod_examineNeighbours_of_expires {p q : Fin 16} {s : State} (ha : Apart s) (h : Expires s p q) :
    (examineNeighbours p s).apods[q] = s.apods[q].dropSlot := by
  obtain ⟨hn, k, hs, hold⟩ := h
  rw [apod_examineNeighbours_of_neighbour ha hn, expired_of_tooOld hs hold]

theorem apod_examineNeighbours_of_not_expires {p q : Fin 16} {s : State} (ha : Apart s) (h : ¬Expires s p q) :
    (examineNeighbours p s).apods[q] = s.apods[q] := by
  by_cases hn : Neighbour s p q
  · rw [apod_examineNeighbours_of_neighbour ha hn]
    exact expired_of_fresh fun k hs hold => h ⟨hn, k, hs, hold⟩
  · exact apod_examineNeighbours_of_not ha hn

/-- A pod is not its own neighbour. -/
theorem apod_examineNeighbours_self {p : Fin 16} {s : State} (ha : Apart s) :
    (examineNeighbours p s).apods[p] = s.apods[p] :=
  apod_examineNeighbours_of_not ha fun h => h.ne rfl

/-! ## Coincident candidates and the partner (R115, R116) -/

/-- The distance in time between an arriving hit and a slot hit (R115). -/
def timeApart (time : Word) (k : Hit) : Nat := (time - k.time).toInt.natAbs

/-- The neighbour q of pod p has a slot hit, not too old, that is coincident with a hit of this timestamp (R115). -/
def Offers (s : State) (p : Fin 16) (time : Word) (q : Fin 16) (k : Hit) : Prop :=
  Neighbour s p q ∧ s.apods[q].slot = some k ∧ ¬TooOld s k.time ∧
    timeApart time k ≤
      coincidenceWindow s.apods[p].positionMm s.apods[q].positionMm s.crackset.waveSpeed s.crackset.guardUs

theorem coincident_eq_some {p q : Fin 16} {time : Word} {s : State} {d : Nat} :
    coincident p q time s = some d ↔
      ∃ k, s.apods[q].slot = some k ∧ d = timeApart time k ∧
        timeApart time k ≤
          coincidenceWindow s.apods[p].positionMm s.apods[q].positionMm s.crackset.waveSpeed s.crackset.guardUs := by
  unfold coincident
  split
  next hs => simp [hs, - Fin.getElem_fin]
  next k hs =>
    simp only [hs, Option.some_inj, exists_eq_left', Option.ite_none_right_eq_some]
    rw [and_comm, eq_comm]
    rfl

/-- After the neighbours' slots have been examined, the coincident candidates are the hits on offer. -/
theorem coincident_examineNeighbours {p q : Fin 16} {time : Word} {s : State} {d : Nat} (ha : Apart s)
    (hn : Neighbour s p q) :
    coincident p q time (examineNeighbours p s) = some d ↔ ∃ k, Offers s p time q k ∧ d = timeApart time k := by
  have hplaces := places_examineNeighbours p s
  have hcrackset : (examineNeighbours p s).crackset = s.crackset := by rw [examineNeighbours_frame]
  rw [coincident_eq_some, apod_examineNeighbours_of_neighbour ha hn]
  refine exists_congr fun k => ?_
  rw [slot_expired, ← apod_examineNeighbours_of_neighbour ha hn, hplaces.position, hplaces.position, hcrackset, Offers]
  tauto

/-- What one neighbour, where there is one, puts up for the choice of a partner: its pod and the distance in time. -/
def candidate (p : Fin 16) (time : Word) (o : Option (Fin 16)) (s : State) : Option (Fin 16 × Nat) :=
  o.bind fun q => (coincident p q time s).map fun d => (q, d)

section
variable {p q : Fin 16} {time : Word} {lower upper : Option (Fin 16)} {s : State} {d : Nat}

theorem candidate_eq_some {o : Option (Fin 16)} :
    candidate p time o s = some (q, d) ↔ o = some q ∧ coincident p q time s = some d := by
  simp [candidate, Option.bind_eq_some_iff]

theorem choosePartner_eq_none (hl : candidate p time lower s = none) (hu : candidate p time upper s = none) :
    choosePartner p time lower upper s = none := by
  unfold candidate at hl hu
  rw [choosePartner, hl, hu]

/-- The lower neighbour's candidate is chosen if the upper one's is no nearer (R116). -/
theorem choosePartner_lower (hl : candidate p time lower s = some (q, d))
    (hu : ∀ r e, candidate p time upper s = some (r, e) → d ≤ e) :
    choosePartner p time lower upper s = some q := by
  unfold candidate at hl hu
  rw [choosePartner, hl]
  split
  next h _ => cases h
  next h _ => cases h; rfl
  next h _ => cases h
  next h hc => cases h; exact if_neg (Nat.not_lt.mpr (hu _ _ hc))

/-- The upper neighbour's candidate is chosen if it is nearer than the lower one's (R116). -/
theorem choosePartner_upper (hu : candidate p time upper s = some (q, d))
    (hl : ∀ r e, candidate p time lower s = some (r, e) → d < e) :
    choosePartner p time lower upper s = some q := by
  unfold candidate at hl hu
  rw [choosePartner, hu]
  split
  next h => cases h
  next h => cases h
  next h => cases h; rfl
  next hc h => cases h; exact if_pos (hl _ _ hc)

theorem candidate_lower (ha : Apart s) :
    candidate p time (lowerNeighbour p s) (examineNeighbours p s) = some (q, d) ↔
      LowerNeighbour s p q ∧ ∃ k, Offers s p time q k ∧ d = timeApart time k := by
  rw [candidate_eq_some, lowerNeighbour_eq_some ha]
  exact and_congr_right fun hn => coincident_examineNeighbours ha (.inl hn)

theorem candidate_upper (ha : Apart s) :
    candidate p time (upperNeighbour p s) (examineNeighbours p s) = some (q, d) ↔
      UpperNeighbour s p q ∧ ∃ k, Offers s p time q k ∧ d = timeApart time k := by
  rw [candidate_eq_some, upperNeighbour_eq_some ha]
  exact and_congr_right fun hn => coincident_examineNeighbours ha (.inr hn)

/-- With no hit on offer there is no partner. -/
theorem choosePartner_of_no_offer (ha : Apart s) (hno : ∀ q k, ¬Offers s p time q k) :
    choosePartner p time (lowerNeighbour p s) (upperNeighbour p s) (examineNeighbours p s) = none := by
  refine choosePartner_eq_none (Option.eq_none_iff_forall_ne_some.mpr fun c hc => ?_)
    (Option.eq_none_iff_forall_ne_some.mpr fun c hc => ?_)
  · obtain ⟨-, k, ho, -⟩ := (candidate_lower ha).mp hc
    exact hno _ _ ho
  · obtain ⟨-, k, ho, -⟩ := (candidate_upper ha).mp hc
    exact hno _ _ ho

/-- The hit k of pod q is on offer, and nearer in time than any other, or as near and the lower neighbour's (R116). -/
def BestOffer (s : State) (p : Fin 16) (time : Word) (q : Fin 16) (k : Hit) : Prop :=
  Offers s p time q k ∧ ∀ r j, Offers s p time r j → r ≠ q →
    timeApart time k < timeApart time j ∨ (timeApart time k = timeApart time j ∧ LowerNeighbour s p q)

theorem choosePartner_of_best {k : Hit} (ha : Apart s) (h : BestOffer s p time q k) :
    choosePartner p time (lowerNeighbour p s) (upperNeighbour p s) (examineNeighbours p s) = some q := by
  obtain ⟨ho, hbest⟩ := h
  rcases ho.1 with hn | hn
  · refine choosePartner_lower ((candidate_lower ha).mpr ⟨hn, k, ho, rfl⟩) fun r e hr => ?_
    obtain ⟨hnr, j, hj, rfl⟩ := (candidate_upper ha).mp hr
    rcases hbest r j hj (hn.ne_upper hnr).symm with hlt | ⟨heq, -⟩
    · exact hlt.le
    · exact heq.le
  · refine choosePartner_upper ((candidate_upper ha).mpr ⟨hn, k, ho, rfl⟩) fun r e hr => ?_
    obtain ⟨hnr, j, hj, rfl⟩ := (candidate_lower ha).mp hr
    rcases hbest r j hj (hnr.ne_upper hn) with hlt | ⟨-, hlower⟩
    · exact hlt
    · exact absurd rfl (hlower.ne_upper hn)

end

/-! ## A hit that pairs and a hit that is held (R116 to R118) -/

/-- A hit that stands in its own pod's slot, one that stood there displaced (R117). -/
def APod.holding (a : APod) (h : Hit) : APod :=
  { a with slot := some h, unpaired := if a.slot = none then a.unpaired else satInc max32 a.unpaired }

theorem holdHit_eq (p : Fin 16) (h : Hit) (s : State) :
    holdHit p h.time h.amp s = setAPod p (s.apods[p].holding h) s := by
  simp only [holdHit, clearSlot_eq, apod_setAPod, if_pos]
  simp only [setAPod, Vector.set_set]
  rfl

/-- Where the hit of pod p and the slot hit k of pod q place their event, the pod of lower position first (R118). -/
def pairPlace (s : State) (p q : Fin 16) (time : Word) (k : Hit) : Int :=
  let xp := s.apods[p].positionMm
  let xq := s.apods[q].positionMm
  if xp < xq then locate xp xq s.crackset.waveSpeed time k.time else locate xq xp s.crackset.waveSpeed k.time time

theorem pairHits_eq {p q : Fin 16} (hpq : p ≠ q) (time : Word) (amp : Nat) (k : Hit) (s : State) :
    pairHits p q time amp k s =
      locatedEvent (pairPlace s p q time k) (max amp k.amp) (lifeOf (zoneOf (pairPlace s p q time k) s) s)
        (setAPod q s.apods[q].slotPaired (setAPod p s.apods[p].pairing s)) := by
  have hq (x : APod) : (setAPod p x s).apods[q] = s.apods[q] := by rw [apod_setAPod, if_neg hpq]
  simp only [pairHits, hq]
  rfl

/-- A hit that finds no partner is held (R117). -/
theorem dealWith_hold {p : Fin 16} {h : Hit} {s : State}
    (hc : choosePartner p h.time (lowerNeighbour p s) (upperNeighbour p s) (examineNeighbours p s) = none) :
    dealWith p h s = holdHit p h.time h.amp (examineNeighbours p s) := by
  unfold examineNeighbours examine at *
  simp only [dealWith, hc]

/-- A hit that finds a partner pairs with it (R116). -/
theorem dealWith_pair {p q : Fin 16} {h k : Hit} {s : State}
    (hc : choosePartner p h.time (lowerNeighbour p s) (upperNeighbour p s) (examineNeighbours p s) = some q)
    (hk : (examineNeighbours p s).apods[q].slot = some k) :
    dealWith p h s = pairHits p q h.time h.amp k (examineNeighbours p s) := by
  unfold examineNeighbours examine at *
  simp only [dealWith, hc, hk]

end Sys2Proof.Machine
end

section
/-! The statement about a hit arrival, the place of a located event and the zone that contains it. -/

namespace Sys2Proof.Machine

/-! ## A hit that is dealt with (R115 to R118) -/

section
variable {p q : Fin 16} {h k : Hit} {s : State}

/-- A hit with no offer goes into its own pod's slot, the neighbours' slots examined (R117). -/
theorem dealWith_of_no_offer (ha : Apart s) (hno : ∀ q k, ¬Offers s p h.time q k) :
    dealWith p h s = setAPod p (s.apods[p].holding h) (examineNeighbours p s) := by
  rw [dealWith_hold (choosePartner_of_no_offer ha hno), holdHit_eq, apod_examineNeighbours_self ha]

/-- The state after a hit of pod p has paired with the slot hit of pod q. -/
def afterPair (p q : Fin 16) (s : State) : State :=
  setAPod q s.apods[q].slotPaired (setAPod p s.apods[p].pairing (examineNeighbours p s))

theorem dealWith_of_best (ha : Apart s) (hb : BestOffer s p h.time q k) :
    let place := pairPlace s p q h.time k
    dealWith p h s = locatedEvent place (max h.amp k.amp) (lifeOf (zoneOf place s) s) (afterPair p q s) := by
  obtain ⟨hn, hs, hfresh, -⟩ := hb.1
  have hself : (examineNeighbours p s).apods[q] = s.apods[q] := by
    refine apod_examineNeighbours_of_not_expires ha fun ⟨_, j, hj, hold⟩ => hfresh ?_
    rwa [← Option.some.inj (hj.symm.trans hs)]
  have hplaces := places_examineNeighbours p s
  have hplace : pairPlace (examineNeighbours p s) p q h.time k = pairPlace s p q h.time k := by
    simp only [pairPlace, hplaces.position]
    rw [examineNeighbours_frame]
  rw [dealWith_pair (choosePartner_of_best ha hb) (hself ▸ hs), pairHits_eq hn.ne.symm, hplace, hself,
    apod_examineNeighbours_self ha, afterPair]
  congr 1
  rw [examineNeighbours_frame]
  rfl

theorem pairPlace_lower (hn : LowerNeighbour s p q) (time : Word) :
    pairPlace s p q time k =
      locate s.apods[q].positionMm s.apods[p].positionMm s.crackset.waveSpeed k.time time :=
  have ⟨_, hbelow, _⟩ := hn
  if_neg (Nat.lt_asymm hbelow)

theorem pairPlace_upper (hn : UpperNeighbour s p q) (time : Word) :
    pairPlace s p q time k =
      locate s.apods[p].positionMm s.apods[q].positionMm s.crackset.waveSpeed time k.time :=
  have ⟨_, habove, _⟩ := hn
  if_pos habove

end

/-! ## A hit arrival (R112, R113) -/

section
variable {p q : Fin 16} {h k : Hit} {s : State}

/-- The arriving hit of pod p is counted received and accepted (R112). -/
def acceptHit (p : Fin 16) (s : State) : State := setAPod p s.apods[p].accepting s

/-- A hit past the amplitude filter that is not too old is counted accepted and dealt with (R112, R113). -/
theorem hitArrival_of_passed (hamp : s.crackset.minAmpDb ≤ h.amp) (hage : ¬TooOld s h.time) :
    hitArrival p h s = dealWith p h (acceptHit p s) := by
  rw [hitArrival_eq, if_neg (Nat.not_lt.mpr hamp), if_neg (mt tooOld_iff.mp hage), acceptHit]

theorem places_acceptHit : Places s (acceptHit p s) := places_setAPod rfl rfl

theorem apod_acceptHit_of_ne (hq : q ≠ p) : (acceptHit p s).apods[q] = s.apods[q] := by
  rw [acceptHit, apod_setAPod, if_neg hq.symm]

theorem apod_acceptHit_self : (acceptHit p s).apods[p] = s.apods[p].accepting := by
  rw [acceptHit, apod_setAPod, if_pos rfl]

/-- Counting the arriving hit changes nothing of what the neighbours have on offer. -/
theorem offers_acceptHit (time : Word) :
    Offers (acceptHit p s) p time q k ↔ Offers s p time q k := by
  unfold Offers
  rw [places_acceptHit.neighbour]
  refine and_congr_right fun hn => ?_
  rw [apod_acceptHit_of_ne hn.ne, apod_acceptHit_self]
  rfl

theorem expires_acceptHit : Expires (acceptHit p s) p q ↔ Expires s p q := by
  unfold Expires
  rw [places_acceptHit.neighbour]
  refine and_congr_right fun hn => ?_
  rw [apod_acceptHit_of_ne hn.ne]
  rfl

theorem bestOffer_acceptHit (time : Word) :
    BestOffer (acceptHit p s) p time q k ↔ BestOffer s p time q k := by
  simp only [BestOffer, offers_acceptHit, places_acceptHit.lowerNeighbour]

/-- A pod other than the hit's own, the ages examined: its slot hit is dropped exactly if it expires (R115). -/
theorem apod_examined {r : Fin 16} (ha : Apart s) (hr : r ≠ p) :
    let t := examineNeighbours p (acceptHit p s)
    (Expires s p r → t.apods[r] = s.apods[r].dropSlot) ∧ (¬Expires s p r → t.apods[r] = s.apods[r]) := by
  have ha' : Apart (acceptHit p s) := places_acceptHit.apart ha
  refine ⟨fun he => ?_, fun he => ?_⟩
  · rw [apod_examineNeighbours_of_expires ha' (expires_acceptHit.mpr he), apod_acceptHit_of_ne hr]
  · rw [apod_examineNeighbours_of_not_expires ha' (mt expires_acceptHit.mp he), apod_acceptHit_of_ne hr]

/-- A hit that finds no partner changes the pods alone, and stands in its own pod's slot (R117). -/
theorem hitArrival_of_no_offer (ha : Apart s) (hamp : s.crackset.minAmpDb ≤ h.amp) (hage : ¬TooOld s h.time)
    (hno : ∀ q k, ¬Offers s p h.time q k) :
    let t := hitArrival p h s
    t = { s with apods := t.apods } ∧ t.apods[p] = s.apods[p].accepting.holding h ∧
      ∀ r, r ≠ p →
        (Expires s p r → t.apods[r] = s.apods[r].dropSlot) ∧ (¬Expires s p r → t.apods[r] = s.apods[r]) := by
  intro t
  have ht : t = setAPod p (s.apods[p].accepting.holding h) (examineNeighbours p (acceptHit p s)) := by
    have hd := dealWith_of_no_offer (places_acceptHit.apart ha) fun q k ho => hno q k ((offers_acceptHit _).mp ho)
    rw [apod_acceptHit_self] at hd
    exact (hitArrival_of_passed hamp hage).trans hd
  rw [ht]
  refine ⟨?_, by rw [apod_setAPod, if_pos rfl], fun r hr => ?_⟩
  · rw [examineNeighbours_frame]
    rfl
  · rw [apod_setAPod, if_neg hr.symm]
    exact apod_examined ha hr

/-- A hit that finds a partner changes the pods, and its event goes to the crack table (R116, R118). -/
theorem hitArrival_of_best (ha : Apart s) (hamp : s.crackset.minAmpDb ≤ h.amp) (hage : ¬TooOld s h.time)
    (hb : BestOffer s p h.time q k) :
    let t := hitArrival p h s
    let place := pairPlace s p q h.time k
    t.apods[p] = s.apods[p].accepting.pairing ∧ t.apods[q] = s.apods[q].slotPaired ∧
      (∀ r, r ≠ p → r ≠ q →
        (Expires s p r → t.apods[r] = s.apods[r].dropSlot) ∧ (¬Expires s p r → t.apods[r] = s.apods[r])) ∧
      t = locatedEvent place (max h.amp k.amp) (lifeOf (zoneOf place s) s) { s with apods := t.apods } := by
  intro t place
  have hqp : q ≠ p := hb.1.1.ne
  have ht : t = locatedEvent place (max h.amp k.amp) (lifeOf (zoneOf place s) s)
      (afterPair p q (acceptHit p s)) := by
    have hd := dealWith_of_best (places_acceptHit.apart ha) ((bestOffer_acceptHit _).mpr hb)
    have hplace : pairPlace (acceptHit p s) p q h.time k = place := by
      simp only [pairPlace, places_acceptHit.position]
      rfl
    rw [hplace] at hd
    exact (hitArrival_of_passed hamp hage).trans hd
  have hpods : t.apods = (afterPair p q (acceptHit p s)).apods := by rw [ht, apods_locatedEvent]
  rw [hpods]
  refine ⟨?_, ?_, fun r hp hq => ?_, ?_⟩
  · rw [afterPair, apod_setAPod, if_neg hqp, apod_setAPod, if_pos rfl, apod_acceptHit_self]
  · rw [afterPair, apod_setAPod, if_pos rfl, apod_acceptHit_of_ne hqp]
  · rw [afterPair, apod_setAPod, if_neg hq.symm, apod_setAPod, if_neg hp.symm]
    exact apod_examined ha hp
  · rw [ht]
    congr 1
    rw [afterPair, examineNeighbours_frame]
    rfl

end

/-! ## Positions and zones (R118, R119, R126) -/

theorem locate_eq {xa xb : Nat} (h : xa ≤ xb) (v : Nat) (ta tb : Word) :
    locate xa xb v ta tb =
      max (xa : Int) (min (xb : Int) (roundDiv (1000 * (xa + xb) + v * (ta - tb).toInt) 2000)) :=
  limitTo_eq (by exact_mod_cast h) _

theorem zoneOf_eq_some {x : Int} {g : Fin 4} {s : State} :
    zoneOf x s = some g ↔
      ((s.groups[g].zoneLo : Int) ≤ x ∧ x ≤ s.groups[g].zoneHi) ∧
        ∀ g' : Fin 4, g' < g → ¬((s.groups[g'].zoneLo : Int) ≤ x ∧ x ≤ s.groups[g'].zoneHi) := by
  simp only [zoneOf, find?_finRange_eq_some, Bool.and_eq_true, decide_eq_true_eq]
  exact and_congr_right fun _ => forall_congr' fun g' => (imp_congr_right fun _ => not_lt.symm).trans imp_not_comm

theorem zoneOf_eq_none {x : Int} {s : State} :
    zoneOf x s = none ↔ ∀ g : Fin 4, ¬((s.groups[g].zoneLo : Int) ≤ x ∧ x ≤ s.groups[g].zoneHi) := by
  simp only [zoneOf, List.find?_eq_none, List.mem_finRange, forall_true_left, Bool.and_eq_true, decide_eq_true_eq]

/-- Settles O34: the outcome of an arrival by what its pod's neighbours have on offer, and the place of a pair by which
neighbour the partner is. -/
theorem hitsPairAndAreLocated : Obligations.HitsPairAndAreLocated := by
  unfold Obligations.HitsPairAndAreLocated
  refine ⟨fun p h s hl _ => ?_, fun xa xb v ta tb hle => ?_, fun x s => ?_⟩
  · intro t x passed dropped apart window neighbour offers expires
    obtain ⟨-, hapart⟩ := hl
    refine ⟨fun hlow => ?_, fun hamp hold => ?_, fun hamp hage hno => ?_, fun q k hamp hage ho hbest => ?_⟩
    · exact (hitArrival_eq p h s).trans (if_pos hlow)
    · exact (hitArrival_eq p h s).trans ((if_neg (Nat.not_lt.mpr hamp)).trans (if_pos (tooOld_iff.mpr hold)))
    · exact hitArrival_of_no_offer hapart hamp hage hno
    · obtain ⟨hp, hq, hothers, ht⟩ := hitArrival_of_best hapart hamp hage ⟨ho, hbest⟩
      exact ⟨hp, hq, hothers, pairPlace s p q h.time k, fun hn => pairPlace_lower hn _,
        fun hn => pairPlace_upper hn _, ht⟩
  · have hint : (xa : Int) ≤ xb := by exact_mod_cast hle
    exact ⟨locate_eq hle v ta tb, le_limitTo hint _, limitTo_le hint _⟩
  · exact ⟨fun g => zoneOf_eq_some, zoneOf_eq_none⟩

end Sys2Proof.Machine
end

section
/-! What binds crack records to groups, the zones and the crack slots: which operations leave both as they are. -/

namespace Sys2Proof.Machine

/-- What binds crack records to groups: the group whose zone contains each position, and the slots. -/
structure Bindings where
  zone : Int → Option (Fin 4)
  cracks : Vector (Option Crack) 32

/-- The bindings of a state. -/
def bindings (s : State) : Bindings := ⟨fun x => zoneOf x s, s.cracks⟩

/-- The two ends of a group's zone. -/
def Group.zone (x : Group) : Nat × Nat := (x.zoneLo, x.zoneHi)

/-! ## The group engine leaves zones (R5 to R18) -/

@[simp] theorem zone_enter (x : Group) (st : StepRec) (keep : Bool) : (x.enter st keep).zone = x.zone := rfl

@[simp] theorem zone_stepDone (x : Group) (next : StepRec) : (x.stepDone next).zone = x.zone := by
  unfold Group.stepDone
  split <;> rfl

@[simp] theorem zone_wrapped (x : Group) (st next : StepRec) : (x.wrapped st next).zone = x.zone := by
  unfold Group.wrapped
  split
  · split
    · rfl
    · exact zone_stepDone _ _
  · split <;> rfl

@[simp] theorem zone_advanceCycle (x : Group) (st next : StepRec) : (x.advanceCycle st next).1.zone = x.zone := by
  unfold Group.advanceCycle
  simp only
  split
  · split <;> rfl
  · split
    · exact zone_wrapped _ _ _
    · rfl

@[simp] theorem zone_advanceRun (x : Group) (st next : StepRec) : (x.advanceRun st next).1.zone = x.zone := by
  unfold Group.advanceRun
  simp only
  split
  iterate 2
    split
    · exact zone_stepDone _ _
    · rfl
  · exact zone_advanceCycle x st next
  all_goals rfl

@[simp] theorem zone_advanceUnload (x : Group) : x.advanceUnload.zone = x.zone := by
  unfold Group.advanceUnload
  simp only
  split <;> rfl

@[simp] theorem zone_advance (x : Group) (st next : StepRec) : (x.advance st next).1.zone = x.zone := by
  unfold Group.advance
  split
  · rfl
  · exact zone_advanceRun x st next
  · split
    · exact zone_advanceCycle x st next
    · rfl
  · rfl
  · exact zone_advanceUnload x

/-! ## Writings of single records -/

theorem bindings_of_groups {s t : State} (hg : t.groups = s.groups) (hc : t.cracks = s.cracks) :
    bindings t = bindings s := by
  simp only [bindings, zoneOf, hg, hc]

/-- A GROUP record replaced by one of the same zone. -/
theorem bindings_putGroup {g : Fin 4} {x : Group} {s : State} (h : x.zone = s.groups[g].zone) :
    bindings (putGroup g x s) = bindings s := by
  obtain ⟨hlo, hhi⟩ := Prod.mk.inj h
  have hzone (k : Fin 4) : (putGroup g x s).groups[k].zoneLo = s.groups[k].zoneLo ∧
      (putGroup g x s).groups[k].zoneHi = s.groups[k].zoneHi := by
    rw [putGroup_groups, getElem_set_fin]
    split
    next hk => exact hk ▸ ⟨hlo, hhi⟩
    · exact ⟨rfl, rfl⟩
  simp only [bindings, zoneOf, hzone, putGroup_cracks]

theorem Plans.bindings {s t : State} (h : Plans s t) : bindings t = bindings s := by
  unfold Plans at h
  rw [h]
  rfl

theorem Triggers.bindings {s t : State} (h : Triggers s t) : bindings t = bindings s := by
  rw [h.frame]
  rfl

theorem bindings_forAll {n : Nat} {f : Fin n → State → State} (h : ∀ i t, bindings (f i t) = bindings t) (s : State) :
    bindings (forAll f s) = bindings s :=
  forAll_invariant (P := fun t => bindings t = bindings s) (fun i t ht => (h i t).trans ht) rfl

@[simp] theorem bindings_passTo (c : Nat) (s : State) : bindings (passTo c s) = bindings s := rfl

@[simp] theorem bindings_mark (i : RecordId) (s : State) : bindings (mark i s) = bindings s := rfl

@[simp] theorem bindings_unmark (i : RecordId) (s : State) : bindings (unmark i s) = bindings s := rfl

@[simp] theorem bindings_markIf (b : Bool) (i : RecordId) (s : State) : bindings (markIf b i s) = bindings s :=
  bindings_of_groups (by simp) (by simp)

@[simp] theorem bindings_setRam (r : Fin 8) (x : Ram) (s : State) : bindings (setRam r x s) = bindings s := rfl

@[simp] theorem bindings_setStep (i : Fin 64) (x : StepRec) (s : State) : bindings (setStep i x s) = bindings s := rfl

@[simp] theorem bindings_setPlan (x : Plan) (s : State) : bindings (setPlan x s) = bindings s := rfl

@[simp] theorem bindings_setRound (x : Round) (s : State) : bindings (setRound x s) = bindings s := rfl

@[simp] theorem bindings_setLine (x : Line) (s : State) : bindings (setLine x s) = bindings s := rfl

@[simp] theorem bindings_setAPod (p : Fin 16) (x : APod) (s : State) : bindings (setAPod p x s) = bindings s := rfl

@[simp] theorem bindings_putAPod (p : Fin 16) (x : APod) (s : State) : bindings (putAPod p x s) = bindings s :=
  bindings_of_groups (by simp) (by simp)

@[simp] theorem bindings_putLimit (i : Fin 24) (x : Option Limit) (s : State) :
    bindings (putLimit i x s) = bindings s :=
  bindings_of_groups (by simp) (by simp)

@[simp] theorem bindings_portCheck (s : State) : bindings (portCheck s) = bindings s := by
  rw [portCheck_eq]
  rfl

/-! ## The protection path -/

@[simp] theorem bindings_unloadGroup (g : Fin 4) (s : State) : bindings (unloadGroup g s) = bindings s := by
  unfold unloadGroup
  split <;> exact bindings_putGroup rfl

@[simp] theorem bindings_groupTrip (g : Fin 4) (s : State) : bindings (groupTrip g s) = bindings s := by
  unfold groupTrip
  split
  any_goals exact bindings_unloadGroup g s
  · split
    · rfl
    · exact bindings_putGroup rfl
  · rfl

@[simp] theorem bindings_tripRam (cause : TripCause) (r : Fin 8) (s : State) :
    bindings (tripRam cause r s) = bindings s := by
  unfold tripRam
  simp only
  split <;> simp

@[simp] theorem bindings_tripAll (cause : TripCause) (s : State) : bindings (tripAll cause s) = bindings s :=
  bindings_forAll (fun r t => bindings_tripRam cause r t) s

@[simp] theorem bindings_tripGroup (cause : TripCause) (g : Fin 4) (s : State) :
    bindings (tripGroup cause g s) = bindings s := by
  refine bindings_forAll (fun r t => ?_) s
  split <;> simp

@[simp] theorem bindings_recompute (g : Fin 4) (s : State) : bindings (recompute g s) = bindings s :=
  bindings_putGroup rfl

/-- The action of a limit on one target (R21). -/
@[simp] theorem bindings_applyAction (a : Action) (g : Fin 4) (s : State) :
    bindings (applyAction a g s) = bindings s := by
  unfold applyAction
  simp only
  split
  · rfl
  · rfl
  · split
    · split <;> exact bindings_putGroup rfl
    · exact bindings_putGroup rfl
    all_goals rfl
  · split
    iterate 2 exact bindings_putGroup rfl
    all_goals rfl
  · split
    iterate 3 exact bindings_unloadGroup g s
    all_goals rfl
  · exact bindings_tripGroup _ _ _

@[simp] theorem bindings_notifyEngage (l : Limit) (s : State) : bindings (notifyEngage l s) = bindings s := by
  refine bindings_forAll (fun g t => ?_) s
  split <;> simp

@[simp] theorem bindings_notifyRelease (l : Limit) (s : State) : bindings (notifyRelease l s) = bindings s := by
  refine bindings_forAll (fun g t => ?_) s
  split <;> simp

/-- One evaluation of a limit slot (R153 to R159). -/
@[simp] theorem bindings_evalLimit (i : Fin 24) (s : State) : bindings (evalLimit i s) = bindings s := by
  unfold evalLimit
  simp only
  repeat' split
  all_goals simp

@[simp] theorem bindings_evalWhere (p : Limit → Bool) (s : State) : bindings (evalWhere p s) = bindings s := by
  refine bindings_forAll (fun i t => ?_) s
  split <;> simp

@[simp] theorem bindings_noticeZones (c : Fin 4 → Bool) (s : State) : bindings (noticeZones c s) = bindings s := by
  refine bindings_forAll (fun g t => ?_) s
  split <;> simp

@[simp] theorem bindings_noticeRefs (refs : List (Option (Fin 4))) (s : State) :
    bindings (noticeRefs refs s) = bindings s := bindings_noticeZones _ s

/-! ## The strain stream -/

@[simp] theorem bindings_putGauge (k : Fin 48) (x : Gauge) (s : State) : bindings (putGauge k x s) = bindings s := by
  unfold putGauge
  simp only
  split
  · rfl
  · exact bindings_evalWhere _ _

theorem bindings_handGauges (p : Fin 12) (f : Fin 4 → Gauge → Gauge) (s : State) :
    bindings (handGauges p f s) = bindings s := by
  refine bindings_forAll (fun c t => ?_) s
  split <;> simp

@[simp] theorem bindings_handRead (p : Fin 12) (flagged : Fin 4 → Bool) (count : Fin 4 → Int) (s : State) :
    bindings (handRead p flagged count s) = bindings s := by
  have hcount (t : State) (v : Vector GPod 12) : bindings { t with gpods := v } = bindings t := rfl
  rw [handRead_eq]
  exact (hcount _ _).trans (bindings_handGauges _ _ _)

theorem bindings_countMiss (p : Fin 12) (why : MissReason) (s : State) : bindings (countMiss p why s) = bindings s :=
  bindings_markIf _ _ _

@[simp] theorem bindings_handMiss (p : Fin 12) (why : MissReason) (s : State) :
    bindings (handMiss p why s) = bindings s := by
  rw [handMiss_eq]
  split
  · exact (bindings_handGauges _ _ _).trans (bindings_countMiss p why s)
  · exact bindings_countMiss p why s

@[simp] theorem bindings_roundMiss (p : Fin 12) (why : MissReason) (s : State) :
    bindings (roundMiss p why s) = bindings s := bindings_handMiss p why s

@[simp] theorem bindings_missAll (ps : List (Fin 12)) (s : State) : bindings (missAll ps s) = bindings s := by
  unfold missAll
  induction ps generalizing s with
  | nil => rfl
  | cons p ps ih => exact (ih _).trans (bindings_roundMiss p .fault s)

theorem bindings_writeSummary (aborted : Bool) (s : State) : bindings (writeSummary aborted s) = bindings s :=
  bindings_markIf _ _ _

theorem bindings_endRound (s : State) : bindings (endRound s) = bindings s := by
  unfold endRound
  split <;> rfl

@[simp] theorem bindings_completeRound (aborted : Bool) (s : State) :
    bindings (completeRound aborted s) = bindings s := by
  rw [completeRound_eq, bindings_endRound, bindings_evalWhere, bindings_writeSummary]

@[simp] theorem bindings_nextPod (s : State) : bindings (nextPod s) = bindings s := by
  unfold nextPod
  simp only
  split <;> simp

@[simp] theorem bindings_latchStart (s : State) : bindings (latchStart s) = bindings s := by
  rw [latchStart_eq]
  rfl

@[simp] theorem bindings_clearStart (why : ClearReason) (s : State) : bindings (clearStart why s) = bindings s := rfl

@[simp] theorem bindings_stopSent (s : State) : bindings (stopSent s) = bindings s := rfl

@[simp] theorem bindings_enterWait (s : State) : bindings (enterWait s) = bindings s := rfl

@[simp] theorem bindings_endRestartedRound (s : State) : bindings (endRestartedRound s) = bindings s := rfl

@[simp] theorem bindings_restartTimer (s : State) : bindings (restartTimer s) = bindings s := rfl

@[simp] theorem bindings_setBusState (b : BusState) (s : State) : bindings (setBusState b s) = bindings s := by
  simp [setBusState]

@[simp] theorem bindings_setArmed (b : Bool) (s : State) : bindings (setArmed b s) = bindings s := by
  simp [setArmed]

@[simp] theorem bindings_roundGoesOn (s : State) : bindings (roundGoesOn s) = bindings s :=
  (plans_roundGoesOn s).bindings

@[simp] theorem bindings_roundStart (kind : TriggerKind) (delayed : Bool) (s : State) :
    bindings (roundStart kind delayed s) = bindings s := (plans_roundStart kind delayed s).bindings

@[simp] theorem bindings_trigger (kind : TriggerKind) (s : State) : bindings (trigger kind s) = bindings s :=
  (plans_trigger kind s).bindings

theorem bindings_clearSucceeded (s : State) : bindings (clearSucceeded s) = bindings s := by
  unfold clearSucceeded
  simp only
  repeat' split
  all_goals simp

theorem bindings_clearFailed (s : State) : bindings (clearFailed s) = bindings s := by
  unfold clearFailed
  simp only
  repeat' split
  all_goals simp

theorem bindings_podJudged (reply : PodReply) (s : State) : bindings (podJudged reply s) = bindings s := by
  unfold podJudged
  simp only
  repeat' split
  all_goals simp

theorem bindings_intervalTimerExpiry (s : State) : bindings (intervalTimerExpiry s) = bindings s := by
  unfold intervalTimerExpiry
  split <;> simp

theorem bindings_cyclicStart (s : State) : bindings (cyclicStart s) = bindings s := by
  unfold cyclicStart
  split <;> simp

theorem bindings_delayExpiry (s : State) : bindings (delayExpiry s) = bindings s := by
  unfold delayExpiry
  split <;> simp

theorem bindings_latchBroadcastDone (addrAck dataAck : Bool) (s : State) :
    bindings (latchBroadcastDone addrAck dataAck s) = bindings s := by
  unfold latchBroadcastDone
  simp only
  repeat' split
  all_goals simp

theorem bindings_latchWaitExpiry (s : State) : bindings (latchWaitExpiry s) = bindings s := by
  unfold latchWaitExpiry
  simp only
  split <;> simp

theorem bindings_podReadDone (reply : PodReply) (s : State) : bindings (podReadDone reply s) = bindings s := by
  unfold podReadDone
  split
  · exact bindings_podJudged _ _
  · rfl

theorem bindings_stretchTimeout (s : State) : bindings (stretchTimeout s) = bindings s := by
  unfold stretchTimeout
  simp only
  repeat' split
  all_goals simp

theorem bindings_busClearDone (result : BusClearEnd) (s : State) : bindings (busClearDone result s) = bindings s := by
  unfold busClearDone
  simp only
  split
  · split
    · exact bindings_clearSucceeded _
    all_goals exact bindings_clearFailed _
  · rfl

/-! ## The acoustic line and the slots of the locator -/

@[simp] theorem bindings_expireSlot (p : Fin 16) (s : State) : bindings (expireSlot p s) = bindings s := by
  unfold expireSlot
  repeat' split
  all_goals simp

@[simp] theorem bindings_frameEndNotice (s : State) : bindings (frameEndNotice s) = bindings s :=
  bindings_forAll bindings_expireSlot s

@[simp] theorem bindings_clearSlot (p : Fin 16) (s : State) : bindings (clearSlot p s) = bindings s := by
  unfold clearSlot
  split <;> simp

@[simp] theorem bindings_holdHit (p : Fin 16) (t : Word) (amp : Nat) (s : State) :
    bindings (holdHit p t amp s) = bindings s := by
  simp [holdHit]

/-- The neighbour of an arriving hit's pod, where it has one, is examined for its age (R115). -/
@[simp] theorem bindings_expireNeighbour (q : Option (Fin 16)) (s : State) :
    bindings ((q.map fun q => expireSlot q s).getD s) = bindings s := by
  cases q <;> simp

@[simp] theorem bindings_frameEnd (began : Nat) (s : State) : bindings (frameEnd began s) = bindings s := by
  simp [frameEnd]

@[simp] theorem bindings_beginPoll (p : Fin 16) (s : State) : bindings (beginPoll p s) = bindings s := rfl

@[simp] theorem bindings_beginTime (s : State) : bindings (beginTime s) = bindings s := rfl

@[simp] theorem bindings_beginQuiet (began : Nat) (s : State) : bindings (beginQuiet began s) = bindings s := rfl

@[simp] theorem bindings_openPollSlot (dominant : Bool) (s : State) :
    bindings (openPollSlot dominant s) = bindings s := by
  unfold openPollSlot
  simp only
  repeat' split
  all_goals simp

@[simp] theorem bindings_openSlot (dominant : Bool) (s : State) : bindings (openSlot dominant s) = bindings s := by
  unfold openSlot
  repeat' split
  all_goals simp

@[simp] theorem bindings_pollOutcome (p : Fin 16) (counted : Bool) (o : PollOutcome) (s : State) :
    bindings (pollOutcome p counted o s) = bindings s := by
  unfold pollOutcome
  split <;> simp

@[simp] theorem bindings_setLineState (x : LineState) (s : State) : bindings (setLineState x s) = bindings s :=
  bindings_markIf _ _ _

@[simp] theorem bindings_countContention (s : State) : bindings (countContention s) = bindings s := rfl

theorem bindings_enterStuck (s : State) : bindings (enterStuck s) = bindings s := by
  unfold enterStuck
  simp only
  split <;> simp

theorem bindings_restartLine (s : State) : bindings (restartLine s) = bindings s := bindings_forAll bindings_clearSlot _

@[simp] theorem bindings_uncountPoll (p : Fin 16) (s : State) : bindings (uncountPoll p s) = bindings s := by
  unfold uncountPoll
  repeat' split
  all_goals simp

theorem bindings_slotOpen (dominant : Bool) (s : State) : bindings (slotOpen dominant s) = bindings s := by
  unfold slotOpen
  simp only
  repeat' split
  all_goals simp

theorem bindings_contention (s : State) : bindings (contention s) = bindings s := by
  unfold contention
  repeat' split
  all_goals simp

@[simp] theorem bindings_replyFails (p : Fin 16) (began : Nat) (counted : Bool) (n : Nat) (s : State) :
    bindings (replyFails p began counted n s) = bindings s := by
  simp [replyFails]

theorem bindings_replyTimeout (falls : List LineFall) (s : State) :
    bindings (replyTimeout falls s) = bindings s := by
  unfold replyTimeout
  repeat' split
  all_goals simp

theorem bindings_replyFrameError (s : State) : bindings (replyFrameError s) = bindings s := by
  unfold replyFrameError
  split <;> simp

theorem bindings_quietWaitEnd (s : State) : bindings (quietWaitEnd s) = bindings s := by
  unfold quietWaitEnd
  split <;> simp

theorem bindings_requestPulse (n : Nat) (s : State) : bindings (requestPulse n s) = bindings s := by
  unfold requestPulse requestSweep
  repeat' split
  all_goals simp

theorem bindings_lineRecovered (s : State) : bindings (lineRecovered s) = bindings s := by
  unfold lineRecovered
  split <;> simp

theorem bindings_timeFrameEnd (s : State) : bindings (timeFrameEnd s) = bindings s := by
  unfold timeFrameEnd
  split <;> simp

theorem bindings_heldFrameBegin (s : State) : bindings (heldFrameBegin s) = bindings s := by
  unfold heldFrameBegin beginHeld
  repeat' split
  all_goals simp

/-! ## The plant and the request port -/

@[simp] theorem bindings_takeCounts (r : Fin 8) (cLoad cStroke cCoil : Int) (s : State) :
    bindings (takeCounts r cLoad cStroke cCoil s) = bindings s := by
  unfold takeCounts
  simp only
  repeat' split
  all_goals simp

theorem bindings_takeRam (counts : Vector (BitVec 16) 28) (r : Fin 8) (s : State) :
    bindings (takeRam counts r s) = bindings s := bindings_takeCounts _ _ _ _ _

theorem bindings_estopAssert (s : State) : bindings (estopAssert s) = bindings s := by
  unfold estopAssert
  split
  · exact bindings_tripAll _ _
  · rfl

theorem bindings_hpuReadyFall (s : State) : bindings (hpuReadyFall s) = bindings s := by
  unfold hpuReadyFall
  split
  · exact bindings_tripAll _ _
  · rfl

theorem bindings_settleResponse (n : Nat) (s : State) : bindings (settleResponse n s) = bindings s := by
  unfold settleResponse
  simp only
  repeat' split
  any_goals rfl
  all_goals exact bindings_markIf _ _ _

theorem bindings_takeFrame (sdi : List Byte) (s : State) : bindings (takeFrame sdi s) = bindings s := by
  unfold takeFrame
  split <;> rfl

theorem bindings_selFall (s : State) : bindings (selFall s) = bindings s := by
  unfold selFall
  repeat' split
  any_goals rfl
  exact bindings_markIf _ _ _

theorem bindings_selRise (sdi : List Bool) (s : State) : bindings (selRise sdi s) = bindings s := by
  unfold selRise
  simp only
  repeat' split
  any_goals rfl
  exact (bindings_takeFrame _ _).trans (bindings_settleResponse _ _)

end Sys2Proof.Machine
end

section
/-! What CrackLaw and RefLaw say of one CRACK record, and that events, window closes and merges keep it. -/

namespace Sys2Proof.Machine

/-! ## Rounding between bounds (R46) -/

/-- A rounded quotient is off the exact one by at most a half either way. -/
theorem roundDiv_within (n : Int) {d : Nat} (hd : 0 < d) :
    2 * n - d ≤ 2 * (roundDiv n d * d) ∧ 2 * (roundDiv n d * d) ≤ 2 * n + d := by
  have hnear := (roundDiv_nearest n hd).1
  rcases abs_cases (n - roundDiv n d * d) with ⟨habs, _⟩ | ⟨habs, _⟩ <;> omega

theorem le_roundDiv {n lo : Int} {d : Nat} (hd : 0 < d) (h : lo * d ≤ n) : lo ≤ roundDiv n d := by
  obtain ⟨hnear, -⟩ := roundDiv_within n hd
  have hpos : (0 : Int) < d := by exact_mod_cast hd
  have hlt : lo * d < (roundDiv n d + 1) * d := by linarith
  exact Int.lt_add_one_iff.mp (lt_of_mul_lt_mul_right hlt hpos.le)

theorem roundDiv_le {n hi : Int} {d : Nat} (hd : 0 < d) (h : n ≤ hi * d) : roundDiv n d ≤ hi := by
  obtain ⟨-, hnear⟩ := roundDiv_within n hd
  have hpos : (0 : Int) < d := by exact_mod_cast hd
  have hlt : roundDiv n d * d < (hi + 1) * d := by linarith
  exact Int.lt_add_one_iff.mp (lt_of_mul_lt_mul_right hlt hpos.le)

theorem roundDiv_mono {m n : Int} {d : Nat} (hd : 0 < d) (h : m ≤ n) : roundDiv m d ≤ roundDiv n d := by
  rcases h.eq_or_lt with rfl | hlt
  · exact le_refl _
  · obtain ⟨-, hm⟩ := roundDiv_within m hd
    obtain ⟨hn, -⟩ := roundDiv_within n hd
    have hmul : roundDiv m d * d < (roundDiv n d + 1) * d := by linarith
    exact Int.lt_add_one_iff.mp (lt_of_mul_lt_mul_right hmul (Int.natCast_nonneg d))

/-- A whole number of millimetres is reported as it is (Table 8-2). -/
theorem roundDiv_sixteenths (x : Int) : roundDiv (16 * x) 16 = x :=
  le_antisymm (roundDiv_le (by decide) (by omega)) (le_roundDiv (by decide) (by omega))

/-- A rounded n-th part of a distance lies between no step and the whole step (R128 step 2). -/
theorem roundDiv_part (e : Int) {n : Nat} (hn : 0 < n) :
    min 0 e ≤ roundDiv e n ∧ roundDiv e n ≤ max 0 e := by
  have hone : (1 : Int) ≤ n := by exact_mod_cast hn
  rcases le_total 0 e with he | he
  · have hle : e * 1 ≤ e * n := mul_le_mul_of_nonneg_left hone he
    exact ⟨(min_le_left _ _).trans (le_roundDiv hn (by omega)), (roundDiv_le hn (by omega)).trans (le_max_right _ _)⟩
  · have hle : e * n ≤ e * 1 := mul_le_mul_of_nonpos_left hone he
    exact ⟨(min_le_right _ _).trans (le_roundDiv hn (by omega)), (roundDiv_le hn (by omega)).trans (le_max_left _ _)⟩

/-- A rounded mean of two positions by weights lies between them (R141). -/
theorem roundDiv_mean (p q : Int) {m n : Nat} (h : 0 < m + n) :
    min p q ≤ roundDiv (p * m + q * n) (m + n) ∧ roundDiv (p * m + q * n) (m + n) ≤ max p q := by
  have hm := Int.natCast_nonneg m
  have hn := Int.natCast_nonneg n
  refine ⟨le_roundDiv h ?_, roundDiv_le h ?_⟩
  · rw [Nat.cast_add, mul_add]
    exact add_le_add (mul_le_mul_of_nonneg_right (min_le_left p q) hm)
      (mul_le_mul_of_nonneg_right (min_le_right p q) hn)
  · rw [Nat.cast_add, mul_add]
    exact add_le_add (mul_le_mul_of_nonneg_right (le_max_left p q) hm)
      (mul_le_mul_of_nonneg_right (le_max_right p q) hn)

/-! ## One record -/

/-- What CrackLaw and RefLaw say of one record, where zone gives the group of a position (R126, R128). -/
structure Crack.Lawful (zone : Int → Option (Fin 4)) (y : Crack) : Prop where
  counted : 1 ≤ y.events
  above : y.xLo ≤ y.xMm
  below : y.xMm ≤ y.xHi
  confirmed : y.confirmCycle.isSome = true ↔ y.state ≠ .suspect
  bound : y.refGroup = zone y.xMm

theorem rank_eq_zero {c : CrackState} : c.rank = 0 ↔ c = .suspect := by cases c <;> simp [CrackState.rank]

namespace Crack.Lawful

variable {zone : Int → Option (Fin 4)} {y : Crack}

/-- A located event moves the position toward its own, so both stay within the widened extent (R128). -/
theorem join (h : y.Lawful zone) (x : Int) (amp : Nat) : (y.join x amp zone).Lawful zone := by
  obtain ⟨hcounted, habove, hbelow, hconfirmed, -⟩ := h
  have hevents : 1 ≤ satInc 65535 y.events := by
    unfold satInc
    split <;> omega
  obtain ⟨hlo, hhi⟩ := roundDiv_part (16 * x - y.xq) (n := min (satInc 65535 y.events) 256) (by omega)
  have hfrom : roundDiv (min y.xq (16 * x)) 16 ≤ (y.join x amp zone).xMm :=
    roundDiv_mono (by decide) (show _ ≤ y.xq + roundDiv (16 * x - y.xq) (min (satInc 65535 y.events) 256) by omega)
  have hto : (y.join x amp zone).xMm ≤ roundDiv (max y.xq (16 * x)) 16 :=
    roundDiv_mono (by decide) (show y.xq + roundDiv (16 * x - y.xq) (min (satInc 65535 y.events) 256) ≤ _ by omega)
  refine ⟨hevents, ?_, ?_, hconfirmed, rfl⟩
  · refine le_trans ?_ hfrom
    show min y.xLo x ≤ _
    rcases min_choice y.xq (16 * x) with hc | hc <;> rw [hc]
    · exact (min_le_left _ _).trans habove
    · rw [roundDiv_sixteenths]
      exact min_le_right _ _
  · refine le_trans hto ?_
    show _ ≤ max y.xHi x
    rcases max_choice y.xq (16 * x) with hc | hc <;> rw [hc]
    · exact hbelow.trans (le_max_left _ _)
    · rw [roundDiv_sixteenths]
      exact le_max_right _ _

/-- A record enters CONFIRMED with its confirm cycle (R129). -/
theorem confirm (h : y.Lawful zone) (s : State) : (y.confirm s).Lawful zone := by
  unfold Crack.confirm
  split
  · exact ⟨h.counted, h.above, h.below, by simp, h.bound⟩
  · exact h

/-- The record of a located event stands at its one position (R130). -/
theorem newCrack (x : Int) (amp cycle : Nat) : (newCrack x amp cycle (zone x)).Lawful zone := by
  have hx : (Machine.newCrack x amp cycle (zone x)).xMm = x := roundDiv_sixteenths x
  exact ⟨le_refl _, hx.ge, hx.le, by simp [Machine.newCrack], by rw [hx]; rfl⟩

/-- A window close leaves the position of a record that it keeps, and never makes it SUSPECT (R133, R134). -/
theorem windowClose (h : y.Lawful zone) {cs : CrackSet} {z : Crack} (hz : y.windowClose cs = some z) :
    z.Lawful zone := by
  obtain ⟨hcounted, habove, hbelow, hconfirmed, hbound⟩ := h
  have hkeep {state : CrackState} {quiet window : Nat} {acknowledged : Bool}
      (hs : state = .suspect ↔ y.state = .suspect) :
      ({ y with state := state, quietCount := quiet, windowEvents := window, acknowledged := acknowledged } :
        Crack).Lawful zone :=
    ⟨hcounted, habove, hbelow, hconfirmed.trans (not_congr hs).symm, hbound⟩
  unfold Crack.windowClose at hz
  simp only at hz
  split at hz
  next hs =>
    split_ifs at hz
    · obtain rfl := Option.some.inj hz
      exact hkeep Iff.rfl
    · obtain rfl := Option.some.inj hz
      exact hkeep Iff.rfl
  all_goals
    next hs =>
      split_ifs at hz <;> obtain rfl := Option.some.inj hz <;> exact hkeep (by simp [hs])

/-- The merged position lies between the two, and so within the joint extent (R141, Table 8-6). -/
theorem merge {x : Crack} (hx : x.Lawful zone) (hy : y.Lawful zone) : (x.merge y zone).Lawful zone := by
  obtain ⟨hcounted, habove, hbelow, hconfirmed, -⟩ := hx
  obtain ⟨hcounted', habove', hbelow', hconfirmed', -⟩ := hy
  obtain ⟨hlo, hhi⟩ := roundDiv_mean x.xq y.xq (m := x.events) (n := y.events) (by omega)
  have hfrom : roundDiv (min x.xq y.xq) 16 ≤ (x.merge y zone).xMm := roundDiv_mono (by decide) hlo
  have hto : (x.merge y zone).xMm ≤ roundDiv (max x.xq y.xq) 16 := roundDiv_mono (by decide) hhi
  refine ⟨?_, ?_, ?_, ?_, rfl⟩
  · show 1 ≤ min 65535 (x.events + y.events)
    omega
  · refine le_trans ?_ hfrom
    show min x.xLo y.xLo ≤ _
    rcases min_choice x.xq y.xq with hc | hc <;> rw [hc]
    · exact (min_le_left _ _).trans habove
    · exact (min_le_right _ _).trans habove'
  · refine le_trans hto ?_
    show _ ≤ max x.xHi y.xHi
    rcases max_choice x.xq y.xq with hc | hc <;> rw [hc]
    · exact hbelow.trans (le_max_left _ _)
    · exact hbelow'.trans (le_max_right _ _)
  · have hsome : (mergeConfirm x.confirmCycle y.confirmCycle).isSome = true ↔
        x.confirmCycle.isSome = true ∨ y.confirmCycle.isSome = true := by
      cases x.confirmCycle <;> cases y.confirmCycle <;> simp [mergeConfirm]
    show (mergeConfirm x.confirmCycle y.confirmCycle).isSome = true ↔
      (if x.state.rank < y.state.rank then y.state else x.state) ≠ .suspect
    rw [hsome, hconfirmed, hconfirmed', Ne, Ne, Ne, ← rank_eq_zero, ← rank_eq_zero, ← rank_eq_zero]
    split <;> omega

/-- The zones move: the ref group computed anew is that of the new zones (R126). -/
theorem rebind (h : y.Lawful zone) (zone' : Int → Option (Fin 4)) :
    ({ y with refGroup := zone' y.xMm } : Crack).Lawful zone' :=
  ⟨h.counted, h.above, h.below, h.confirmed, rfl⟩

theorem acknowledge (h : y.Lawful zone) : ({ y with acknowledged := true } : Crack).Lawful zone :=
  ⟨h.counted, h.above, h.below, h.confirmed, h.bound⟩

theorem measure (h : y.Lawful zone) (w : Option Width) : ({ y with width := w } : Crack).Lawful zone :=
  ⟨h.counted, h.above, h.below, h.confirmed, h.bound⟩

end Crack.Lawful

/-! ## All records -/

/-- Every live record is lawful in the zones as they stand. -/
def Bindings.Lawful (b : Bindings) : Prop := ∀ (c : Fin 32) (y : Crack), b.cracks[c] = some y → y.Lawful b.zone

theorem crackLaws_iff (s : State) : CrackLaw s ∧ RefLaw s ↔ (bindings s).Lawful := by
  refine ⟨fun ⟨hl, hr⟩ c y hy => ?_, fun h => ⟨fun c y hy => ?_, fun c y hy => (h c y hy).bound⟩⟩
  · obtain ⟨hcounted, habove, hbelow, hconfirmed⟩ := hl c y hy
    exact ⟨hcounted, habove, hbelow, hconfirmed, hr c y hy⟩
  · obtain ⟨hcounted, habove, hbelow, hconfirmed, -⟩ := h c y hy
    exact ⟨hcounted, habove, hbelow, hconfirmed⟩

end Sys2Proof.Machine
end

section
/-! Every step keeps each crack record within its extent and bound to the zone that contains it. -/

namespace Sys2Proof.Machine

/-! ## The operations of the crack table -/

theorem bindings_putCrack (c : Fin 32) (x : Option Crack) (s : State) :
    bindings (putCrack c x s) = ⟨(bindings s).zone, s.cracks.set c x⟩ := by
  simp [bindings, zoneOf]

/-- A slot freed, or taken by a lawful record. -/
theorem lawful_putCrack {c : Fin 32} {x : Option Crack} {s : State} (hl : (bindings s).Lawful)
    (hx : ∀ y, x = some y → y.Lawful (bindings s).zone) : (bindings (putCrack c x s)).Lawful := by
  rw [bindings_putCrack]
  intro d z hz
  simp only [getElem_set_fin] at hz
  split at hz
  · exact hx z hz
  · exact hl d z hz

theorem lawful_putCrack_some {c : Fin 32} {y : Crack} {s : State} (hl : (bindings s).Lawful)
    (hy : y.Lawful (bindings s).zone) : (bindings (putCrack c (some y) s)).Lawful :=
  lawful_putCrack hl fun _ hz => Option.some.inj hz ▸ hy

theorem lawful_putCrack_none {c : Fin 32} {s : State} (hl : (bindings s).Lawful) :
    (bindings (putCrack c none s)).Lawful := lawful_putCrack hl nofun

/-- A located event (R127 to R131). -/
theorem lawful_locatedEvent {s : State} (hl : (bindings s).Lawful) (x : Int) (amp cycle : Nat) :
    (bindings (locatedEvent x amp cycle s)).Lawful := by
  have hcreate : (bindings (createCrack x amp cycle s)).Lawful := by
    unfold createCrack
    split
    · rw [bindings_noticeRefs]
      exact lawful_putCrack_some hl (.newCrack (zone := (bindings s).zone) x amp cycle)
    · rw [bindings_markIf]
      exact hl
  unfold locatedEvent
  split
  · split
    · split
      next hy =>
        rw [bindings_noticeRefs]
        exact lawful_putCrack_some hl (((hl _ _ hy).join x amp).confirm s)
      · exact hl
    · exact hcreate
  · exact hcreate

/-- An activity window closes (R132 to R135). -/
theorem lawful_closeWindow {s : State} (hl : (bindings s).Lawful) (g : Fin 4) :
    (bindings (closeWindow g s)).Lawful := by
  have hjudge : (bindings (judgeWindow g s)).Lawful := by
    refine forAll_invariant (P := fun t => (bindings t).Lawful) (fun c t ht => ?_) hl
    split
    next hy =>
      split
      · exact lawful_putCrack ht fun z hz => (ht _ _ hy).windowClose hz
      · exact ht
    · exact ht
  rw [closeWindow_eq]
  split
  · rwa [bindings_noticeZones]
  · exact hjudge

theorem lawful_wrapAtCracks {s : State} (hl : (bindings s).Lawful) (g : Fin 4) (counted : Bool) :
    (bindings (wrapAtCracks g counted s)).Lawful := by
  unfold wrapAtCracks
  split
  · exact lawful_closeWindow hl g
  · exact hl

/-- The merge of two lawful records (R141). -/
theorem lawful_mergeCracks {lo hi : Fin 32} {x y : Crack} {s : State} (hl : (bindings s).Lawful)
    (hx : x.Lawful (bindings s).zone) (hy : y.Lawful (bindings s).zone) :
    (bindings (mergeCracks lo hi x y s)).Lawful := by
  unfold mergeCracks
  simp only [bindings_noticeRefs, bindings_mark]
  exact lawful_putCrack_none (lawful_putCrack_some hl ((hx.merge hy).confirm s))

theorem zone_rebound (s : State) : (bindings (rebound s)).zone = (bindings s).zone := by
  have hgroups : (rebound s).groups = s.groups := by simp only [rebound]
  simp only [bindings, zoneOf, hgroups]

/-- The ref groups computed anew bind every record to the zones as they stand, whatever they were before (R126). -/
theorem lawful_recomputeRefs {zone : Int → Option (Fin 4)} {s : State}
    (hl : ∀ (c : Fin 32) (y : Crack), s.cracks[c] = some y → y.Lawful zone) :
    (bindings (recomputeRefs s)).Lawful := by
  rw [recomputeRefs_eq, bindings_noticeZones]
  intro c z hz
  rw [zone_rebound]
  simp only [bindings, rebound, Fin.getElem_fin, mapBank_getElem, Option.map_eq_some_iff] at hz
  obtain ⟨y, hy, rfl⟩ := hz
  exact (hl c y hy).rebind (bindings s).zone

/-! ## Hit arrivals and group advances -/

/-- A hit that pairs touches the crack table by its located event alone (R116, R119). -/
theorem lawful_pairHits {s : State} (hl : (bindings s).Lawful) (p q : Fin 16) (t : Word) (amp : Nat) (h : Hit) :
    (bindings (pairHits p q t amp h s)).Lawful := by
  unfold pairHits
  exact lawful_locatedEvent (by simpa using hl) _ _ _

theorem lawful_dealWith {s : State} (hl : (bindings s).Lawful) (p : Fin 16) (h : Hit) :
    (bindings (dealWith p h s)).Lawful := by
  unfold dealWith
  simp only
  have hneighbour (q : Option (Fin 16)) {t : State} (ht : (bindings t).Lawful) :
      (bindings ((q.map fun q => expireSlot q t).getD t)).Lawful := by
    rwa [bindings_expireNeighbour]
  have hexamined := hneighbour (upperNeighbour p s) (hneighbour (lowerNeighbour p s) hl)
  generalize ((upperNeighbour p s).map _).getD _ = t at hexamined ⊢
  split
  · rwa [bindings_holdHit]
  · split
    · exact lawful_pairHits hexamined _ _ _ _ _
    · rwa [bindings_holdHit]

theorem lawful_hitArrival {s : State} (hl : (bindings s).Lawful) (p : Fin 16) (h : Hit) :
    (bindings (hitArrival p h s)).Lawful := by
  rw [hitArrival_eq]
  split
  · exact hl
  · split
    · exact hl
    · exact lawful_dealWith (by exact hl) p h

theorem lawful_goodReply {s : State} (hl : (bindings s).Lawful) (p : Fin 16) (reply : List Byte) :
    (bindings (goodReply p reply s)).Lawful := by
  have hhits (hs : List Hit) {t : State} (ht : (bindings t).Lawful) :
      (bindings (hs.foldl (fun u h => hitArrival p h u) t)).Lawful := by
    induction hs generalizing t with
    | nil => exact ht
    | cons h hs ih => exact ih (lawful_hitArrival ht p h)
  unfold goodReply
  simp only
  refine hhits _ ?_
  split <;> simpa using hl

theorem lawful_replyReceived {s : State} (hl : (bindings s).Lawful) (falls : List LineFall) :
    (bindings (replyReceived falls s)).Lawful := by
  unfold replyReceived takeReply
  repeat' split
  any_goals simpa using hl
  rw [bindings_frameEnd]
  exact lawful_goodReply (by exact hl) _ _

theorem lawful_advanceGroup {s : State} (hl : (bindings s).Lawful) (g : Fin 4) :
    (bindings (advanceGroup g s)).Lawful := by
  have hput (st next : StepRec) : (bindings (putGroup g (s.groups[g].advance st next).1 s)).Lawful := by
    rwa [bindings_putGroup (zone_advance _ _ _)]
  unfold advanceGroup
  simp only
  split
  · exact hput _ _
  · rw [(triggers_peakTrigger g _).bindings]
    exact hput _ _
  · rw [(triggers_troughTrigger g _).bindings]
    exact hput _ _
  · exact lawful_wrapAtCracks (hput _ _) g _

theorem bindings_takeAux (counts : Vector (BitVec 16) 28) (s : State) : bindings (takeAux counts s) = bindings s := rfl

theorem lawful_sampleSet {s : State} (hl : (bindings s).Lawful) (counts : Vector (BitVec 16) 28) :
    (bindings (sampleSet counts s)).Lawful := by
  cases he : s.scanEnds with
  | none =>
    rw [show sampleSet counts s = s by simp [sampleSet, he]]
    exact hl
  | some e =>
    rw [sampleSet_eq he, bindings_evalWhere]
    refine forAll_invariant (P := fun t => (bindings t).Lawful) (fun g t ht => lawful_advanceGroup ht g) ?_
    rw [bindings_takeAux, bindings_forAll (bindings_takeRam counts)]
    exact hl

/-! ## Requests -/

section
variable {s : State}

theorem bindings_onRam {f : Fin 8 → State → Response × State} (hf : ∀ r s, bindings (f r s).2 = bindings s)
    (key : Byte) (s : State) : bindings (onRam key f s).2 = bindings s := by
  unfold onRam
  split
  · exact hf _ s
  · rfl

theorem bindings_onGroup {f : Fin 4 → State → Response × State} (hf : ∀ g s, bindings (f g s).2 = bindings s)
    (key : Byte) (s : State) : bindings (onGroup key f s).2 = bindings s := by
  unfold onGroup
  split
  · exact hf _ s
  · rfl

theorem bindings_onLimit {f : Fin 24 → Limit → State → Response × State}
    (hf : ∀ i l s, bindings (f i l s).2 = bindings s) (key : Byte) (s : State) :
    bindings (onLimit key f s).2 = bindings s := by
  unfold onLimit
  split
  · split
    · exact hf _ _ s
    · rfl
  · rfl

/-- A request of one live record, which its owner is handed as it stands (R136). -/
theorem lawful_onCrack {f : Fin 32 → Crack → State → Response × State} (hl : (bindings s).Lawful)
    (hf : ∀ c y, y.Lawful (bindings s).zone → (bindings (f c y s).2).Lawful) (key : Byte) :
    (bindings (onCrack key f s).2).Lawful := by
  unfold onCrack
  split
  next hk =>
    split
    next y hy => exact hf _ y (hl ⟨key.toNat, hk⟩ y hy)
    · exact hl
  · exact hl

theorem bindings_readRecord (kind key : Byte) (s : State) : bindings (readRecord kind key s).2 = bindings s := by
  unfold readRecord
  split <;> rfl

theorem bindings_listRecords (start : Option (Byte × Byte)) (s : State) :
    bindings (listRecords start s).2 = bindings s := by
  unfold listRecords
  repeat' split
  all_goals rfl

theorem bindings_startRequest (r : Fin 8) (s : State) : bindings (startRequest r s).2 = bindings s := by
  unfold startRequest
  split <;> rfl

theorem bindings_stopRequest (r : Fin 8) (s : State) : bindings (stopRequest r s).2 = bindings s := by
  unfold stopRequest
  simp only
  repeat' split
  all_goals rfl

theorem bindings_clearRequest (r : Fin 8) (s : State) : bindings (clearRequest r s).2 = bindings s := by
  unfold clearRequest
  simp only
  split <;> rfl

theorem bindings_runResumeRequest (g : Fin 4) (s : State) : bindings (runResumeRequest g s).2 = bindings s := by
  unfold runResumeRequest runResume
  simp only
  repeat' split
  any_goals rfl
  all_goals exact bindings_putGroup rfl

theorem bindings_runFromStepRequest (form : Byte) (g : Fin 4) (s : State) :
    bindings (runFromStepRequest form g s).2 = bindings s := by
  unfold runFromStepRequest
  repeat' split
  any_goals rfl
  exact bindings_putGroup rfl

theorem bindings_pauseNowRequest (g : Fin 4) (s : State) : bindings (pauseNowRequest g s).2 = bindings s := by
  unfold pauseNowRequest
  split
  iterate 2 exact bindings_putGroup rfl
  all_goals rfl

theorem bindings_pauseAtCycleEndRequest (g : Fin 4) (s : State) :
    bindings (pauseAtCycleEndRequest g s).2 = bindings s := by
  unfold pauseAtCycleEndRequest
  simp only
  split
  · split <;> exact bindings_putGroup rfl
  all_goals rfl

theorem bindings_unloadRequest (g : Fin 4) (s : State) : bindings (unloadRequest g s).2 = bindings s := by
  unfold unloadRequest
  split
  iterate 3 exact bindings_unloadGroup g s
  all_goals rfl

theorem bindings_releaseRequest (g : Fin 4) (s : State) : bindings (releaseRequest g s).2 = bindings s := by
  unfold releaseRequest
  simp only
  split
  · exact bindings_putGroup (zone_stepDone _ _)
  · rfl

theorem bindings_onGauges (sel : Byte) (f : Gauge → Gauge) (s : State) :
    bindings (onGauges sel f s).2 = bindings s := by
  have hset (v : Vector Gauge 48) : bindings { s with gauges := v } = bindings s := rfl
  unfold onGauges
  simp only
  split
  · split
    · exact hset _
    · rfl
  · split
    · exact hset _
    · rfl

theorem bindings_podCountersRequest (sel : Byte) (s : State) : bindings (podCountersRequest sel s).2 = bindings s := by
  unfold podCountersRequest
  simp only
  repeat' split
  all_goals rfl

theorem bindings_roundRequest (s : State) : bindings (roundRequest s).2 = bindings s := by
  unfold roundRequest
  split <;> simp

theorem bindings_limitAckRequest (i : Fin 24) (l : Limit) (s : State) :
    bindings (limitAckRequest i l s).2 = bindings s := by
  unfold limitAckRequest
  split <;> simp

theorem bindings_limitRetireRequest (i : Fin 24) (l : Limit) (s : State) :
    bindings (limitRetireRequest i l s).2 = bindings s := by
  unfold limitRetireRequest
  simp only
  split <;> simp

/-- CRACK_ACK (R137). -/
theorem lawful_ackRequest (hl : (bindings s).Lawful) (c : Fin 32) {y : Crack} (hy : y.Lawful (bindings s).zone) :
    (bindings (ackRequest c y s).2).Lawful := by
  unfold ackRequest
  split
  · exact hl
  · rw [bindings_noticeRefs]
    exact lawful_putCrack_some hl hy.acknowledge

/-- CRACK_WIDTH (R138). -/
theorem lawful_widthRequest (hl : (bindings s).Lawful) (width : BitVec 16) (c : Fin 32) {y : Crack}
    (hy : y.Lawful (bindings s).zone) : (bindings (widthRequest width c y s).2).Lawful := by
  unfold widthRequest
  split
  · exact hl
  · rw [bindings_noticeRefs]
    exact lawful_putCrack_some hl (hy.measure _)

/-- CRACK_RETIRE (R139). -/
theorem lawful_retireRequest (hl : (bindings s).Lawful) (c : Fin 32) (y : Crack) :
    (bindings (retireRequest c y s).2).Lawful := by
  simp only [retireRequest, bindings_noticeRefs]
  exact lawful_putCrack_none hl

/-- CRACK_MERGE (R141). -/
theorem lawful_mergeRequest (hl : (bindings s).Lawful) (a b : Byte) : (bindings (mergeRequest a b s).2).Lawful := by
  refine lawful_onCrack hl (fun i x hx => lawful_onCrack hl (fun j y hy => ?_) b) a
  split
  · exact hl
  · split
    · exact lawful_mergeCracks hl hx hy
    · exact lawful_mergeCracks hl hy hx

end

/-! ## Writes and RESTART -/

theorem bindings_writeHall (pairs : List (Nat × Int)) (s : State) : bindings (writeHall pairs s) = bindings s := by
  unfold writeHall
  simp only
  split <;> rfl

/-- Pairs that name no end of the zone leave it (Table 1-1). -/
theorem zone_written {pairs : List (Nat × Int)} (h : (names 13 pairs || names 14 pairs) = false) (x : Group) :
    (x.written pairs).zone = x.zone := by
  rw [Bool.or_eq_false_iff, names, names, List.any_eq_false, List.any_eq_false] at h
  obtain ⟨hlo, hhi⟩ := h
  have hput : (putAll Group.put pairs x).zone = x.zone := by
    refine putAll_invariant (P := fun y : Group => y.zone = x.zone) (fun p hp y hy => ?_) rfl
    have h13 : p.1 ≠ 13 := by simpa using hlo p hp
    have h14 : p.1 ≠ 14 := by simpa using hhi p hp
    rw [← hy]
    unfold Group.put
    split
    any_goals rfl
    · exact absurd ‹_› h13
    · exact absurd ‹_› h14
  rw [← hput]
  unfold Group.written
  simp only
  repeat' split
  all_goals rfl

/-- A WRITE of a GROUP that moves its zone binds every record anew (R126). -/
theorem lawful_writeGroup {s : State} (hl : (bindings s).Lawful) (g : Fin 4) (pairs : List (Nat × Int)) :
    (bindings (writeGroup g pairs s)).Lawful := by
  unfold writeGroup
  simp only
  split
  · refine lawful_recomputeRefs (zone := (bindings s).zone) fun c y hy => hl c y ?_
    rwa [putGroup_cracks] at hy
  next hn => rwa [bindings_putGroup (zone_written (by simpa using hn) _)]

theorem bindings_writeStep (i : Fin 64) (pairs : List (Nat × Int)) (s : State) :
    bindings (writeStep i pairs s) = bindings s := by
  unfold writeStep
  simp only
  split
  · exact bindings_putGroup rfl
  · rfl

theorem bindings_writePlan (pairs : List (Nat × Int)) (s : State) : bindings (writePlan pairs s) = bindings s := by
  unfold writePlan
  simp only
  split <;> rfl

theorem bindings_forgetMisses (p : Fin 12) (s : State) : bindings (forgetMisses p s) = bindings s := by
  unfold forgetMisses
  split <;> rfl

theorem bindings_writeGauge (k : Fin 48) (pairs : List (Nat × Int)) (s : State) :
    bindings (writeGauge k pairs s) = bindings s := by
  obtain ⟨x, hw | hw⟩ := writeGauge_eq k pairs s.gauges[k]
  · rw [hw s rfl, bindings_putGauge]
  · rw [hw s rfl, bindings_forgetMisses, bindings_putGauge]

theorem bindings_writeAPod (p : Fin 16) (pairs : List (Nat × Int)) (s : State) :
    bindings (writeAPod p pairs s) = bindings s := by
  unfold writeAPod
  simp only
  repeat' split
  all_goals simp

theorem bindings_writeLimit (i : Fin 24) (pairs : List (Nat × Int)) (s : State) :
    bindings (writeLimit i pairs s) = bindings s := by
  unfold writeLimit
  simp only
  repeat' split
  all_goals simp

/-- An accepted WRITE of any record (R178). -/
theorem lawful_applyWrite {s : State} (hl : (bindings s).Lawful) (r : RecordId) (pairs : List (Nat × Int)) :
    (bindings (applyWrite r pairs s)).Lawful := by
  cases r with
  | group g => exact lawful_writeGroup hl g pairs
  | hall => exact bindings_writeHall pairs s ▸ hl
  | step i => exact bindings_writeStep i pairs s ▸ hl
  | plan => exact bindings_writePlan pairs s ▸ hl
  | gauge k => exact bindings_writeGauge k pairs s ▸ hl
  | apod p => exact bindings_writeAPod p pairs s ▸ hl
  | limit i => exact bindings_writeLimit i pairs s ▸ hl
  | ram _ | gpod _ | crackset | crack _ => exact hl

theorem lawful_writeRecord {s : State} (hl : (bindings s).Lawful) (kind key : Byte) (items : List Byte) :
    (bindings (writeRecord kind key items s).2).Lawful := by
  unfold writeRecord
  repeat' split
  any_goals exact hl
  exact lawful_applyWrite hl _ _

theorem bindings_restartLimit (i : Fin 24) (s : State) : bindings (restartLimit i s) = bindings s := by
  unfold restartLimit
  simp only
  repeat' split
  all_goals simp

theorem bindings_restartRound (s : State) : bindings (restartRound s) = bindings s := by
  unfold restartRound
  simp only
  split <;> rfl

theorem bindings_restartBlocks (s : State) : bindings (restartBlocks s) = bindings s := by
  have hram (r : Fin 8) (t : State) : bindings (restartRam r t) = bindings t := bindings_markIf _ _ _
  have hgroup (g : Fin 4) (t : State) : bindings (restartGroup g t) = bindings t := bindings_putGroup rfl
  rw [restartBlocks, bindings_restartLine, bindings_restartRound, bindings_forAll bindings_restartLimit,
    bindings_forAll hgroup, bindings_forAll hram]

theorem bindings_restartComplete (s : State) : bindings (restartComplete s) = bindings s := by
  unfold restartComplete
  simp only
  split
  · split
    · rw [endRestartedByte_eq]
      rfl
    · rfl
  · rfl

/-! ## Every command -/

/-- What a command does to the zones and the crack slots keeps the laws. -/
theorem exec_lawful {c : Instr} {s t : State} (hl : (bindings s).Lawful) (h : exec c s = .next t) :
    (bindings t).Lawful := by
  have evl {f : State → State} (hf : (bindings (f s)).Lawful) (h : event f s = .next t) : (bindings t).Lawful :=
    event_next (P := fun u => (bindings u).Lawful) hl hf h
  have ev {f : State → State} (hf : bindings (f s) = bindings s) (h : event f s = .next t) : (bindings t).Lawful :=
    evl (hf ▸ hl) h
  have reql {c : Instr} {body : State → Response × State} (hb : (bindings (body s).2).Lawful)
      (h : request c body s = .next t) : (bindings t).Lawful :=
    request_next (P := fun u => (bindings u).Lawful) (fun _ _ hu => hu) hl hb h
  have req {c : Instr} {body : State → Response × State} (hb : bindings (body s).2 = bindings s)
      (h : request c body s = .next t) : (bindings t).Lawful := reql (hb ▸ hl) h
  have hw {c : Instr} {kind key : Byte} {items : List Byte} (h : request c (writeRecord kind key items) s = .next t) :
      (bindings t).Lawful := reql (lawful_writeRecord hl kind key items) h
  cases c with
  | resetAssert =>
    cases h
    exact hl
  | powerOnReset hpu estop =>
    cases h
    exact (crackLaws_iff (State.powerOn hpu estop)).mp (powerOn_crackLaws hpu estop)
  | controlTick => exact ev (f := controlTick) rfl h
  | sampleSet counts => exact evl (lawful_sampleSet hl counts) h
  | pulsePeriodStart => exact ev (f := pulsePeriodStart) rfl h
  | estopAssert => exact ev (bindings_estopAssert s) h
  | estopRelease => exact ev (f := fun s => { s with hall := { s.hall with estop := .clear } }) rfl h
  | hpuReadyFall => exact ev (bindings_hpuReadyFall s) h
  | hpuReadyRise => exact ev (f := fun s => { s with hall := { s.hall with hpuReady := .high } }) rfl h
  | selFall => exact ev (bindings_selFall s) h
  | selRise sdi => exact ev (bindings_selRise sdi s) h
  | identify => exact req (by rfl) h
  | read kind key => exact req (bindings_readRecord kind key s) h
  | write kind key items | stepWrite kind key items => exact hw h
  | seatLoadWrite key items | zoneWrite key items | gaugeEnable key items | gaugeDisable key items
  | apodEnable key items | apodDisable key items | planWrite key items | pwmPeriodWrite key items
  | attentionMaskWrite key items | limitDefine key items | limitEdit key items | limitEnable key items
  | limitDisable key items => exact hw h
  | listChanged start => exact req (bindings_listRecords start s) h
  | restart =>
    have hport (u : State) (p : Port) (hu : (bindings u).Lawful) : (bindings { u with port := p }).Lawful := hu
    have hblocks : (bindings (restartBlocks s)).Lawful := by rwa [bindings_restartBlocks]
    refine evl (f := takeRequest .restart _) (takeRequest_next (P := fun u => (bindings u).Lawful) hport hl ?_) h
    exact hport (restartBlocks s) { (restartBlocks s).port with restartTaken := true } hblocks
  | restartComplete => exact ev (bindings_restartComplete s) h
  | groupRunResume group => exact req (bindings_onGroup bindings_runResumeRequest group s) h
  | groupRunFromStep group form => exact req (bindings_onGroup (bindings_runFromStepRequest form) group s) h
  | groupPauseNow group => exact req (bindings_onGroup bindings_pauseNowRequest group s) h
  | groupPauseAtCycleEnd group => exact req (bindings_onGroup bindings_pauseAtCycleEndRequest group s) h
  | groupUnload group => exact req (bindings_onGroup bindings_unloadRequest group s) h
  | groupRelease group => exact req (bindings_onGroup bindings_releaseRequest group s) h
  | ramStart ram => exact req (bindings_onRam bindings_startRequest ram s) h
  | ramStop ram => exact req (bindings_onRam bindings_stopRequest ram s) h
  | ramClear ram => exact req (bindings_onRam bindings_clearRequest ram s) h
  | gaugeRound => exact req (bindings_roundRequest s) h
  | gaugeArmArm =>
    exact req (body := fun s => (ok, restartTimer (setArmed true s)))
      ((bindings_restartTimer _).trans (bindings_setArmed true s)) h
  | gaugeArmDisarm => exact req (body := fun s => (ok, setArmed false s)) (bindings_setArmed false s) h
  | gaugeZero sel => exact req (bindings_onGauges sel _ s) h
  | peakReset sel => exact req (bindings_onGauges sel _ s) h
  | podCountersClear sel => exact req (bindings_podCountersRequest sel s) h
  | findCrack x => exact req (body := findRequest x) (by rw [RamsMove.findRequest]) h
  | crackAck slot => exact reql (lawful_onCrack hl (fun c _ hy => lawful_ackRequest hl c hy) slot) h
  | crackWidth slot width => exact reql (lawful_onCrack hl (fun c _ hy => lawful_widthRequest hl width c hy) slot) h
  | crackRetire slot => exact reql (lawful_onCrack hl (fun c y _ => lawful_retireRequest hl c y) slot) h
  | crackMerge a b => exact reql (lawful_mergeRequest hl a b) h
  | limitAck slot => exact req (bindings_onLimit bindings_limitAckRequest slot s) h
  | limitRetire slot => exact req (bindings_onLimit bindings_limitRetireRequest slot s) h
  | intervalTimerExpiry => exact ev (bindings_intervalTimerExpiry s) h
  | cyclicStart => exact ev (bindings_cyclicStart s) h
  | delayExpiry => exact ev (bindings_delayExpiry s) h
  | latchBroadcastDone addrAck dataAck => exact ev (bindings_latchBroadcastDone addrAck dataAck s) h
  | latchWaitExpiry => exact ev (bindings_latchWaitExpiry s) h
  | podReadDone reply => exact ev (bindings_podReadDone reply s) h
  | stretchTimeout => exact ev (bindings_stretchTimeout s) h
  | busClearDone result => exact ev (bindings_busClearDone result s) h
  | timeFrameDue => exact ev (f := timeFrameDue) rfl h
  | slotOpen dominant => exact ev (bindings_slotOpen dominant s) h
  | contention => exact ev (bindings_contention s) h
  | replyTimeout falls => exact ev (bindings_replyTimeout falls s) h
  | replyFrameError => exact ev (bindings_replyFrameError s) h
  | replyReceived falls => exact evl (lawful_replyReceived hl falls) h
  | quietWaitEnd => exact ev (bindings_quietWaitEnd s) h
  | requestPulse n => exact ev (bindings_requestPulse n s) h
  | lineStuck =>
    refine ev (f := fun s => if s.crackset.lineState = .ok then enterStuck s else s) ?_ h
    split
    · exact bindings_enterStuck s
    · rfl
  | lineRecovered => exact ev (bindings_lineRecovered s) h
  | timeFrameEnd => exact ev (bindings_timeFrameEnd s) h
  | heldFrameBegin => exact ev (bindings_heldFrameBegin s) h

theorem step_lawful {s t : State} (hl : (bindings s).Lawful) (h : step s = .next t) : (bindings t).Lawful := by
  unfold step at h
  split at h
  next c rest _ => exact exec_lawful (s := { s with pending := rest }) hl h
  · cases h
    unfold idleCycle
    split
    · exact hl
    · rw [bindings_portCheck]
      exact hl

/-- Settles O57: a record's position moves only between positions within its extent, and the zones move only by a WRITE,
which binds every record anew. -/
theorem everyStepKeepsCracksInTheirZones : Obligations.EveryStepKeepsCracksInTheirZones := fun s t hs h =>
  (crackLaws_iff t).mpr (step_lawful ((crackLaws_iff s).mp hs) h)

end Sys2Proof.Machine
end

section
/-! Changes of crack slots with their marks and zone change notices: what they leave alone, and when no limit hears them. -/

namespace Sys2Proof.Machine

/-! ## Marks and notices (R142, R143) -/

/-- What of a slot sets its mark where it changes (R143); a FREE slot has none. -/
def crackFlags (x : Option Crack) : Option (CrackState × Bool) := x.map fun y => (y.state, y.acknowledged)

theorem putCrack_flags (c : Fin 32) (x : Option Crack) (s : State) :
    putCrack c x s =
      markIf (crackFlags x != crackFlags s.cracks[c]) (.crack c) { s with cracks := s.cracks.set c x } := rfl

/-- A slot replaced, and marked where P says that its state or acknowledged changes (R143). -/
theorem putCrack_eq {c : Fin 32} {x : Option Crack} {s : State} {P : Prop} [Decidable P]
    (h : crackFlags x ≠ crackFlags s.cracks[c] ↔ P) :
    putCrack c x s =
      { s with
        cracks := s.cracks.set c x
        marks := { s.marks with crack := if P then s.marks.crack.set c true else s.marks.crack } } := by
  rw [putCrack_flags, markIf]
  by_cases hp : P
  · rw [if_pos (bne_iff_ne.mpr (h.mpr hp)), if_pos hp]
    rfl
  · rw [if_neg (mt bne_iff_ne.mp (mt h.mp hp)), if_neg hp]

theorem guards_noticeZones (c : Fin 4 → Bool) (s : State) : Guards s (noticeZones c s) :=
  guards_limitPath.noticeZones c s

/-- A notice for a zone on whose crack records no limit is defined evaluates none. -/
theorem isCrackOf_unheard {g : Fin 4} {s : State} (h : NoCrackLimit s g) (i : Fin 24) (l : Limit)
    (hl : s.limits[i] = some l) : l.isCrackOf g = false := by
  rw [Bool.eq_false_iff]
  intro hw
  simp only [Limit.isCrackOf, Bool.and_eq_true, Bool.or_eq_true, beq_iff_eq] at hw
  obtain ⟨hsource, hkey⟩ := hw
  exact h i l hl hsource hkey

theorem noticeZones_unheard {c : Fin 4 → Bool} {s : State} (h : ∀ g, c g = true → NoCrackLimit s g) :
    noticeZones c s = s :=
  forAll_idle fun g => by
    split
    next hg => exact evalWhere_unheard fun i l hl => isCrackOf_unheard (h g hg) i l hl
    · rfl

/-- From s to t cracks and their marks become those given, and beside them only the protection path differs. -/
def SlotsChange (cracks : Vector (Option Crack) 32) (marked : Vector Bool 32) (s t : State) : Prop :=
  t = { s with
        cracks := cracks, rams := t.rams, groups := t.groups, limits := t.limits,
        marks :=
          { s.marks with
            crack := marked, ram := t.marks.ram, group := t.marks.group, limit := t.marks.limit } }

/-- Notices after a change of the slots. -/
theorem SlotsChange.noticed {cracks : Vector (Option Crack) 32} {marked : Vector Bool 32} {s u : State}
    (h : u = { s with cracks := cracks, marks := { s.marks with crack := marked } }) (c : Fin 4 → Bool) :
    SlotsChange cracks marked s (noticeZones c u) ∧
      ((∀ g, c g = true → NoCrackLimit s g) → LimitsRest s (noticeZones c u)) := by
  refine ⟨?_, fun hn => ?_⟩
  · have hg : Guards u (noticeZones c u) := guards_noticeZones c u
    unfold Guards at hg
    unfold SlotsChange
    generalize noticeZones c u = t at hg ⊢
    rw [hg, h]
  · rw [noticeZones_unheard (by rw [h]; exact hn), h]
    exact ⟨rfl, rfl, rfl, rfl, rfl, rfl⟩

/-- One slot replaced, and the notices for the ref groups concerned. -/
theorem noticeRefs_putCrack {c : Fin 32} {x : Option Crack} {s : State} {P : Prop} [Decidable P]
    (h : crackFlags x ≠ crackFlags s.cracks[c] ↔ P) (refs : List (Option (Fin 4))) :
    let t := noticeRefs refs (putCrack c x s)
    SlotsChange (s.cracks.set c x) (if P then s.marks.crack.set c true else s.marks.crack) s t ∧
      ((∀ g : Fin 4, some g ∈ refs → NoCrackLimit s g) → LimitsRest s t) := by
  obtain ⟨hframe, hrest⟩ := SlotsChange.noticed (putCrack_eq h) fun g => refs.contains (some g)
  exact ⟨hframe, fun hn => hrest fun g hg => hn g (by simpa using hg)⟩

/-! ## Located events (R127 to R131) -/

theorem confirm_eq (y : Crack) (s : State) :
    y.confirm s =
      { y with
        state := if y.state = .suspect ∧ s.crackset.confirmCount ≤ y.events then .confirmed else y.state
        confirmCycle :=
          if y.state = .suspect ∧ s.crackset.confirmCount ≤ y.events then some (lifeOf y.refGroup s)
          else y.confirmCycle } := by
  unfold Crack.confirm
  split <;> rfl

/-- A record that an event joins changes its state exactly where it is confirmed (R129). -/
theorem crackFlags_joined (x : Int) (amp : Nat) (y : Crack) (s : State) :
    crackFlags (some (joined x amp y s)) ≠ crackFlags (some y) ↔
      y.state = .suspect ∧ s.crackset.confirmCount ≤ satInc 65535 y.events := by
  rw [joined, confirm_eq]
  simp only [crackFlags, Crack.join, Option.map_some, ne_eq, Option.some.injEq, Prod.mk.injEq, and_true]
  by_cases h : y.state = .suspect ∧ s.crackset.confirmCount ≤ satInc 65535 y.events
  · obtain ⟨hs, he⟩ := h
    simp [hs, he]
  · simp only [h, if_false, not_true_eq_false]

/-- An event that finds no record in reach creates one, or is lost (R130, R131). -/
theorem locatedEvent_beyond {x : Int} {s : State} (h : ∀ c n, nearestCrack x s = some (c, n) → s.crackset.radiusMm < n)
    (amp cycle : Nat) : locatedEvent x amp cycle s = createCrack x amp cycle s := by
  cases hn : nearestCrack x s with
  | none => simp only [locatedEvent, hn]
  | some p =>
    obtain ⟨d, n⟩ := p
    simp only [locatedEvent, hn, if_neg (Nat.not_le.mpr (h d n hn))]

theorem freeSlot_eq_some {s : State} {c : Fin 32} (hc : s.cracks[c] = none) (hlow : ∀ d, d < c → s.cracks[d] ≠ none) :
    freeSlot s = some c := by
  rw [freeSlot, find?_finRange_eq_some]
  refine ⟨by simp [hc], fun d hd => ?_⟩
  by_contra hlt
  exact hlow d (not_le.mp hlt) (by simpa using hd)

theorem freeSlot_eq_none {s : State} (h : ∀ d : Fin 32, s.cracks[d] ≠ none) : freeSlot s = none := by
  rw [freeSlot, List.find?_eq_none]
  exact fun d _ => by simpa [Option.isNone_iff_eq_none] using h d

/-- An event is lost where no slot is FREE (R131). -/
theorem createCrack_lost {x : Int} {amp cycle : Nat} {s : State} (h : ∀ d : Fin 32, s.cracks[d] ≠ none) :
    createCrack x amp cycle s =
      { s with
        crackset := { s.crackset with eventsLost := satInc max32 s.crackset.eventsLost }
        marks := { s.marks with crackset := s.marks.crackset || decide (s.crackset.eventsLost = 0) } } := by
  unfold createCrack markIf
  rw [freeSlot_eq_none h]
  by_cases hz : s.crackset.eventsLost = 0
  · simp [hz, mark, Marks.put]
  · simp [hz]

/-! ## Activity windows (R132 to R134) -/

/-- A slot as a window close of group g judges it (R132 to R134). -/
def judged (g : Fin 4) (cs : CrackSet) (x : Option Crack) : Option Crack :=
  match x with
  | some y => if y.refGroup = some g then y.windowClose cs else some y
  | none => none

/-- A record of another zone, and a FREE slot, is replaced by itself. -/
theorem putCrack_self (c : Fin 32) (s : State) : putCrack c s.cracks[c] s = s := by
  rw [putCrack_eq (P := False) (by simp)]
  simp

/-- A window close judges slot after slot. -/
theorem judgeWindow_eq (g : Fin 4) (s : State) :
    judgeWindow g s = forAll (fun c t => putCrack c (judged g t.crackset t.cracks[c]) t) s := by
  have hvisit (c : Fin 32) (t : State) :
      (match t.cracks[c] with
        | some y => if y.refGroup = some g then putCrack c (y.windowClose t.crackset) t else t
        | none => t) = putCrack c (judged g t.crackset t.cracks[c]) t := by
    have hself := putCrack_self c t
    cases hy : t.cracks[c] with
    | none => rw [hy] at hself; exact hself.symm
    | some y =>
      rw [hy] at hself
      simp only [judged]
      split
      · rfl
      · exact hself.symm
  unfold judgeWindow
  congr 1
  funext c t
  exact hvisit c t

/-- Only crack slots and their marks differ. -/
def Judges (s t : State) : Prop :=
  t = { s with cracks := t.cracks, marks := { s.marks with crack := t.marks.crack } }

theorem judges_putCrack (c : Fin 32) (x : Option Crack) (s : State) : Judges s (putCrack c x s) := by
  rw [putCrack_eq Iff.rfl]
  rfl

theorem Judges.trans {a b c : State} (h : Judges a b) (k : Judges b c) : Judges a c := by
  unfold Judges at *
  rw [k, h]

theorem judges_judgeWindow (g : Fin 4) (s : State) : Judges s (judgeWindow g s) := by
  rw [judgeWindow_eq]
  exact forAll_relation (R := Judges) (fun _ => rfl) (fun _ _ _ => Judges.trans) (fun c t => judges_putCrack c _ t) s

/-- Slot c and its mark stand from s to t, beside other slots judged. -/
def SlotStands (c : Fin 32) (s t : State) : Prop :=
  Judges s t ∧ t.cracks[c] = s.cracks[c] ∧ t.marks.crack[c] = s.marks.crack[c]

theorem SlotStands.trans {c : Fin 32} {a b d : State} (h : SlotStands c a b) (k : SlotStands c b d) :
    SlotStands c a d := by
  obtain ⟨hj, hc, hm⟩ := h
  obtain ⟨kj, kc, km⟩ := k
  exact ⟨hj.trans kj, kc.trans hc, km.trans hm⟩

theorem slotStands_putCrack {c d : Fin 32} (h : d ≠ c) (x : Option Crack) (s : State) :
    SlotStands c s (putCrack d x s) := by
  refine ⟨judges_putCrack d x s, by rw [putCrack_cracks, getElem_set_fin, if_neg h], ?_⟩
  rw [putCrack_eq Iff.rfl]
  split
  · exact (getElem_set_fin _ _ _ _).trans (if_neg h)
  · rfl

theorem mark_putCrack (c : Fin 32) (x : Option Crack) (s : State) :
    (putCrack c x s).marks.crack[c] =
      (s.marks.crack[c] || decide (crackFlags x ≠ crackFlags s.cracks[c])) := by
  rw [putCrack_eq Iff.rfl]
  split
  next h => simp [h, getElem_set_fin, -Fin.getElem_fin]
  next h => simp [not_not.mp h, -Fin.getElem_fin]

/-- Every slot is judged as it stood, and marked where its state or acknowledged changes (R143). -/
theorem judgeWindow_slot (g : Fin 4) (s : State) (c : Fin 32) :
    (judgeWindow g s).cracks[c] = judged g s.crackset s.cracks[c] ∧
      (judgeWindow g s).marks.crack[c] =
        (s.marks.crack[c] || decide (crackFlags (judged g s.crackset s.cracks[c]) ≠ crackFlags s.cracks[c])) := by
  obtain ⟨a, ⟨haj, hac, ham⟩, -, hbc, hbm⟩ :=
    forAll_around (f := fun c t => putCrack c (judged g t.crackset t.cracks[c]) t) (R := SlotStands c)
      (fun _ => ⟨rfl, rfl, rfl⟩) (fun _ _ _ => SlotStands.trans) c (fun d hd t => slotStands_putCrack hd _ t) s
  have hset : a.crackset = s.crackset := by rw [show a = _ from haj]
  rw [judgeWindow_eq, hbc, hbm, mark_putCrack, putCrack_cracks, getElem_set_fin, if_pos rfl, hac, ham, hset]
  exact ⟨rfl, rfl⟩

end Sys2Proof.Machine
end

section
/-! The statement about located events and activity windows. -/

namespace Sys2Proof.Machine

/-! ## Located events (R127 to R131) -/

/-- A located event that joins the record nearest to it (R127 to R129). -/
theorem locatedEvent_joined {x : Int} {s : State} {c : Fin 32} {y : Crack} {n : Nat}
    (hn : nearestCrack x s = some (c, n)) (hr : n ≤ s.crackset.radiusMm) (hy : s.cracks[c] = some y)
    (amp cycle : Nat) :
    let t := locatedEvent x amp cycle s
    let z := joined x amp y s
    SlotsChange (s.cracks.set c (some z))
        (if y.state = .suspect ∧ s.crackset.confirmCount ≤ satInc 65535 y.events then s.marks.crack.set c true
          else s.marks.crack) s t ∧
      ((∀ g : Fin 4, some g ∈ [y.refGroup, z.refGroup] → NoCrackLimit s g) → LimitsRest s t) := by
  intro t z
  have ht : t = noticeRefs [y.refGroup, z.refGroup] (putCrack c (some z) s) := locatedEvent_joins hn hr hy amp cycle
  rw [ht]
  exact noticeRefs_putCrack (by rw [hy]; exact crackFlags_joined x amp y s) _

/-- A located event that creates a record in the lowest FREE slot (R130). -/
theorem locatedEvent_created {x : Int} {s : State} {c : Fin 32}
    (hn : ∀ c n, nearestCrack x s = some (c, n) → s.crackset.radiusMm < n) (hc : s.cracks[c] = none)
    (hlow : ∀ d, d < c → s.cracks[d] ≠ none) (amp cycle : Nat) :
    let t := locatedEvent x amp cycle s
    SlotsChange (s.cracks.set c (some (newCrack x amp cycle (zoneOf x s)))) (s.marks.crack.set c true) s t ∧
      ((∀ g : Fin 4, some g ∈ [zoneOf x s] → NoCrackLimit s g) → LimitsRest s t) := by
  intro t
  have ht : t = noticeRefs [zoneOf x s] (putCrack c (some (newCrack x amp cycle (zoneOf x s))) s) :=
    locatedEvent_creates hn (freeSlot_eq_some hc hlow) amp cycle
  rw [ht]
  exact noticeRefs_putCrack (P := True) (by simp [hc, crackFlags]) _

/-! ## Activity windows (R132 to R135) -/

theorem wrapAtCracks_eq (g : Fin 4) (counted : Bool) (s : State) :
    wrapAtCracks g counted s =
      if counted = true ∧ s.groups[g].lifeCycles % s.crackset.windowCycles = 0 then closeWindow g s else s := by
  unfold wrapAtCracks
  simp only [Bool.and_eq_true, beq_iff_eq]

theorem closeWindow_cracks (g : Fin 4) (s : State) (c : Fin 32) :
    (closeWindow g s).cracks[c] = judged g s.crackset s.cracks[c] := by
  rw [cracks_closeWindow]
  exact (judgeWindow_slot g s c).1

theorem cracksChanged_eq_false {s t : State} :
    cracksChanged s t = false ↔ ∀ c : Fin 32, crackFlags t.cracks[c] = crackFlags s.cracks[c] := by
  simp only [cracksChanged, List.any_eq_false, List.mem_finRange, forall_true_left, bne_iff_ne, not_not]
  exact forall_congr' fun c => eq_comm

theorem Judges.slotsChange {s u : State} (h : Judges s u) :
    SlotsChange u.cracks u.marks.crack s u ∧ LimitsRest s u := by
  unfold Judges at h
  generalize u.cracks = cracks, u.marks.crack = marked at h ⊢
  subst h
  exact ⟨rfl, rfl, rfl, rfl, rfl, rfl, rfl⟩

/-- A close changes the slots as they are judged; its notice is heard by the limits of its zone alone, and handed only
where a slot is dropped or changes state or acknowledged (R135, R142). -/
theorem closeWindow_changes (g : Fin 4) (s : State) :
    SlotsChange (judgeWindow g s).cracks (judgeWindow g s).marks.crack s (closeWindow g s) ∧
      ((∀ c : Fin 32, crackFlags (closeWindow g s).cracks[c] = crackFlags s.cracks[c]) ∨ NoCrackLimit s g →
        LimitsRest s (closeWindow g s)) := by
  have hj : Judges s (judgeWindow g s) := judges_judgeWindow g s
  rw [cracks_closeWindow, closeWindow_eq]
  generalize judgeWindow g s = u at hj ⊢
  split
  next hc =>
    obtain ⟨hframe, hrest⟩ := SlotsChange.noticed hj fun h => h == g
    refine ⟨hframe, fun h => hrest fun k hk => ?_⟩
    rcases h with h | h
    · rw [cracksChanged_eq_false.mpr h] at hc
      cases hc
    · exact eq_of_beq hk ▸ h
  · exact ⟨hj.slotsChange.1, fun _ => hj.slotsChange.2⟩

theorem SlotsChange.marks_crack {cracks : Vector (Option Crack) 32} {marked : Vector Bool 32} {s t : State}
    (h : SlotsChange cracks marked s t) : t.cracks = cracks ∧ t.marks.crack = marked := by
  unfold SlotsChange at h
  rw [h]
  exact ⟨rfl, rfl⟩

/-- The frame with the slots and marks read off the state after. -/
theorem SlotsChange.frame {cracks : Vector (Option Crack) 32} {marked : Vector Bool 32} {s t : State}
    (h : SlotsChange cracks marked s t) : SlotsChange t.cracks t.marks.crack s t := by
  obtain ⟨hc, hm⟩ := h.marks_crack
  rwa [hc, hm]

/-! ## One record at a window close (R133, R134) -/

section
variable {y : Crack} {cs : CrackSet}

theorem windowClose_suspect_heard (hs : y.state = .suspect) (hw : 0 < y.windowEvents) :
    y.windowClose cs = some { y with quietCount := 0, windowEvents := 0 } := by
  simp only [Crack.windowClose, hs]
  exact if_pos hw

theorem windowClose_suspect_silent (hs : y.state = .suspect) (hw : y.windowEvents = 0) :
    y.windowClose cs =
      if cs.suspectWindows ≤ satInc 255 y.quietCount ∧ y.acknowledged = false then none
      else some { y with quietCount := satInc 255 y.quietCount } := by
  simp [Crack.windowClose, hs, hw]

/-- A record past SUSPECT is judged by its events alone (R134). -/
theorem windowClose_not_suspect (hs : y.state ≠ .suspect) :
    y.windowClose cs =
      if cs.activeEvents ≤ y.windowEvents then
        some
          { y with
            state := .active, quietCount := 0, windowEvents := 0,
            acknowledged := decide (y.state = .active) && y.acknowledged }
      else if 1 ≤ y.windowEvents then some { y with state := .confirmed, quietCount := 0, windowEvents := 0 }
      else
        some
          { y with
            state := if cs.quietWindows ≤ satInc 255 y.quietCount then .quiet else y.state
            quietCount := satInc 255 y.quietCount
            windowEvents := 0 } := by
  cases h : y.state with
  | suspect => exact absurd h hs
  | confirmed => simp [Crack.windowClose, h]
  | active => simp [Crack.windowClose, h]
  | quiet => simp [Crack.windowClose, h]

end

/-- Settles O35: an event by what the search for the nearest record finds, a window slot by slot, and one record by its
state and its events of the window. -/
theorem eventsGatherAndWindowsJudge : Obligations.EventsGatherAndWindowsJudge := by
  unfold Obligations.EventsGatherAndWindowsJudge
  refine ⟨fun x amp cycle s => ?_, fun g counted s => ?_, fun g s => ?_⟩
  · intro t dist silent
    refine ⟨fun c y hy hr hnear => ?_, fun hfar => ?_⟩
    · intro events xq ref confirmed
      obtain ⟨hframe, hrest⟩ := locatedEvent_joined (nearestCrack_of_nearest hy hnear) hr hy amp cycle
      rw [refGroup_joined] at hrest
      refine ⟨hframe.trans ?_, hrest⟩
      rw [joined, confirm_eq]
      rfl
    · have hbeyond : ∀ c n, nearestCrack x s = some (c, n) → s.crackset.radiusMm < n := fun c n =>
        nearestCrack_beyond hfar
      refine ⟨fun c hc hlow => locatedEvent_created hbeyond hc hlow amp cycle, fun hfull => ?_⟩
      exact (locatedEvent_beyond hbeyond amp cycle).trans (createCrack_lost hfull)
  · rw [wrapAtCracks_eq]
    exact ⟨fun h => if_pos h, fun h => if_neg h⟩
  · intro t
    obtain ⟨hchange, hrest⟩ := closeWindow_changes g s
    obtain ⟨hcracks, hmarks⟩ := hchange.marks_crack
    have hslot (c : Fin 32) : t.cracks[c] = judged g s.crackset s.cracks[c] := closeWindow_cracks g s c
    refine ⟨hchange.frame, fun c hc => ?_, fun c => ?_, hrest, fun c y hy => ?_⟩
    · rw [hslot, hc]
      rfl
    · rw [hslot]
      exact (congrArg (fun v : Vector Bool 32 => v[c]) hmarks).trans (judgeWindow_slot g s c).2
    · intro quiet
      rw [hslot, hy]
      refine ⟨fun hg => if_neg hg, fun hg => ?_⟩
      have hj : judged g s.crackset (some y) = y.windowClose s.crackset := if_pos hg
      rw [hj]
      refine ⟨windowClose_suspect_heard, fun hs hw => ?_, fun hs ha => ?_, fun hs hw hlt => ?_, fun hs hw ha => ?_⟩
      · rw [windowClose_suspect_silent hs hw]
        refine ⟨fun hq hn => if_pos ⟨hq, hn⟩, fun h => if_neg ?_⟩
        rintro ⟨hq, hn⟩
        rcases h with h | h
        · exact absurd hq (Nat.not_le.mpr h)
        · rw [hn] at h
          cases h
      · rw [windowClose_not_suspect hs, if_pos ha]
      · rw [windowClose_not_suspect hs, if_neg (Nat.not_le.mpr hlt), if_pos (show 1 ≤ y.windowEvents from hw)]
      · rw [windowClose_not_suspect hs, if_neg (by omega), if_neg (by omega)]
        simp only [hw]
        rfl

end Sys2Proof.Machine
end

section
/-! The requests of the crack table: which keys they take, what each answers, and the statement about them. -/

namespace Sys2Proof.Machine

/-! ## Slot keys (R136) -/

/-- A key that names no live record. -/
def DeadKey (key : Byte) (s : State) : Prop :=
  32 ≤ key.toNat ∨ ∃ i : Fin 32, key = byte i.val ∧ s.cracks[i] = none

theorem byte_slot_toNat (i : Fin 32) : (byte i.val).toNat = i.val := byte_toNat (by omega)

theorem byte_slot_inj {i j : Fin 32} (h : byte i.val = byte j.val) : i = j := by
  have hv := congrArg BitVec.toNat h
  rw [byte_slot_toNat, byte_slot_toNat] at hv
  exact Fin.ext hv

theorem deadKey_or_live (key : Byte) (s : State) :
    DeadKey key s ∨ ∃ (i : Fin 32) (y : Crack), key = byte i.val ∧ s.cracks[i] = some y := by
  by_cases hk : key.toNat < 32
  · have hb : key = byte (⟨key.toNat, hk⟩ : Fin 32).val := by simp [byte]
    cases hy : s.cracks[(⟨key.toNat, hk⟩ : Fin 32)] with
    | none => exact .inl (.inr ⟨_, hb, hy⟩)
    | some y => exact .inr ⟨_, y, hb, hy⟩
  · exact .inl (.inl (Nat.not_lt.mp hk))

theorem onCrack_deadKey {key : Byte} {s : State} (h : DeadKey key s) (f : Fin 32 → Crack → State → Response × State) :
    onCrack key f s = (refuse .badKey, s) := by
  unfold onCrack
  split
  next hk =>
    rcases h with h | ⟨i, rfl, hi⟩
    · exact absurd hk (Nat.not_lt.mpr h)
    · have hn : s.cracks[(byte i.val).toNat] = none := by
        simp only [byte_slot_toNat]
        exact hi
      simp only [hn]
  · rfl

/-! ## FIND_CRACK (R136) -/

theorem nearestCrack_eq_none {x : Int} {s : State} (h : ∀ c : Fin 32, s.cracks[c] = none) : nearestCrack x s = none := by
  have hn := nearestIn_nearestCrack x s
  cases hb : nearestCrack x s with
  | none => rfl
  | some p =>
    rw [hb] at hn
    obtain ⟨⟨y, hy, -⟩, -⟩ := hn
    rw [h p.1] at hy
    cases hy

theorem findRequest_badValue {x : Word} {s : State} (h : 250000 < x.toNat) :
    findRequest x s = (refuse .badValue, s) := if_pos h

theorem findRequest_notFound {x : Word} {s : State} (hx : x.toNat ≤ 250000) (h : ∀ c : Fin 32, s.cracks[c] = none) :
    findRequest x s = (refuse .notFound, s) := by
  rw [findRequest, if_neg (Nat.not_lt.mpr hx), nearestCrack_eq_none h]

theorem findRequest_found {x : Word} {s : State} {c : Fin 32} {y : Crack} {n : Nat} (hx : x.toNat ≤ 250000)
    (hn : nearestCrack x.toNat s = some (c, n)) (hy : s.cracks[c] = some y) :
    findRequest x s = (okWith (findPayload c y), s) := by
  simp only [findRequest, if_neg (Nat.not_lt.mpr hx), hn, hy]

/-- The code of a live record's state (R185). -/
def stateByte : CrackState → Byte
  | .suspect => 1
  | .confirmed => 2
  | .active => 3
  | .quiet => 4

theorem encodeValue_code (c : CrackState) : encodeValue 1 c.code = [stateByte c] := by cases c <;> decide

/-- The answer of FIND_CRACK: slot, position and state (Table 11-6). -/
theorem findPayload_eq (c : Fin 32) (y : Crack) :
    findPayload c y = byte c.val :: (encodeValue 4 (roundDiv y.xq 16) ++ [stateByte y.state]) := by
  rw [← encodeValue_code]
  rfl

/-! ## CRACK_ACK, CRACK_WIDTH and CRACK_RETIRE (R137 to R139) -/

/-- A request answered after a change of the slots. -/
theorem SlotsChange.answer {cracks : Vector (Option Crack) 32} {marked : Vector Bool 32} {s u : State}
    (h : SlotsChange cracks marked s u) (r : Response) :
    answer r u =
      { s with
        cracks := cracks, rams := u.rams, groups := u.groups, limits := u.limits, port := answered r s,
        marks :=
          { s.marks with
            crack := marked, ram := u.marks.ram, group := u.marks.group, limit := u.marks.limit } } := by
  unfold SlotsChange at h
  generalize u.rams = rams, u.groups = groups, u.limits = limits, u.marks.ram = ramMarks,
    u.marks.group = groupMarks, u.marks.limit = limitMarks at h ⊢
  subst h
  rfl

/-- A request of a live record that replaces its slot and hands the notice for its zone. -/
theorem exec_putSlot {c : Instr} {i : Fin 32} {y : Crack} {z : Option Crack} {marked : Bool} {s : State}
    {f : Fin 32 → Crack → State → Response × State} (hc : exec c s = request c (onCrack (byte i.val) f) s)
    (hd : Due c s) (hy : s.cracks[i] = some y) (hf : f i y s = (ok, noticeRefs [y.refGroup] (putCrack i z s)))
    (hm : crackFlags z ≠ crackFlags (some y) ↔ marked = true) :
    ∃ t, exec c s = .next t ∧
      t = { s with
            cracks := s.cracks.set i z, rams := t.rams, groups := t.groups, limits := t.limits,
            port := answered ok s,
            marks :=
              { s.marks with
                crack := if marked then s.marks.crack.set i true else s.marks.crack,
                ram := t.marks.ram, group := t.marks.group, limit := t.marks.limit } } ∧
      ((∀ g : Fin 4, y.refGroup = some g → NoCrackLimit s g) → LimitsRest s t) := by
  obtain ⟨hframe, hrest⟩ := noticeRefs_putCrack (x := z) (P := marked = true) (by rwa [hy]) [y.refGroup]
  refine ⟨_, (hc.trans (request_due hd)).trans (by rw [onCrack_byte hy, hf]), hframe.answer ok, fun hn => hrest ?_⟩
  exact fun g hg => hn g (List.mem_singleton.mp hg).symm

theorem ackRequest_acknowledged {y : Crack} (h : y.acknowledged = true) (c : Fin 32) (s : State) :
    ackRequest c y s = (ok, s) := if_pos h

theorem widthRequest_badValue {width : BitVec 16} (h : 10000 < width.toNat) (c : Fin 32) (y : Crack) (s : State) :
    widthRequest width c y s = (refuse .badValue, s) := if_pos h

/-! ## CRACK_MERGE (R140, R141) -/

theorem mergeRequest_badKey {a b : Byte} {s : State} (h : a = b ∨ DeadKey a s ∨ DeadKey b s) :
    mergeRequest a b s = (refuse .badKey, s) := by
  unfold mergeRequest
  rcases deadKey_or_live a s with ha | ⟨i, x, rfl, hx⟩
  · exact onCrack_deadKey ha _
  · rw [onCrack_byte hx]
    rcases deadKey_or_live b s with hb | ⟨j, y, rfl, hy⟩
    · exact onCrack_deadKey hb _
    · rw [onCrack_byte hy]
      refine if_pos ?_
      rcases h with h | (h | ⟨k, hk, hn⟩) | (h | ⟨k, hk, hn⟩)
      · exact byte_slot_inj h
      · rw [byte_slot_toNat] at h
        omega
      · rw [← byte_slot_inj hk, hx] at hn
        cases hn
      · rw [byte_slot_toNat] at h
        omega
      · rw [← byte_slot_inj hk, hy] at hn
        cases hn

/-- The record that a merge leaves (Table 8-6, R141). -/
def merged (x y : Crack) (s : State) : Crack := (x.merge y fun m => zoneOf m s).confirm s

/-- Both slots are marked, whatever changes in them (R143). -/
theorem mergeCracks_slots (i j : Fin 32) (z : Crack) (s : State) :
    mark (.crack i) (mark (.crack j) (putCrack j none (putCrack i (some z) s))) =
      { s with
        cracks := (s.cracks.set i (some z)).set j none
        marks := { s.marks with crack := (s.marks.crack.set i true).set j true } } := by
  rw [putCrack_eq Iff.rfl, putCrack_eq Iff.rfl]
  simp only [mark, Marks.put]
  congr 2
  ext k hk
  simp only [Vector.getElem_set]
  grind

/-- A merge changes its two slots, and hands the notices for the two old zones and the new one (R142). -/
theorem mergeCracks_changes (i j : Fin 32) (x y : Crack) (s : State) :
    let t := mergeCracks i j x y s
    SlotsChange ((s.cracks.set i (some (merged x y s))).set j none) ((s.marks.crack.set i true).set j true) s t ∧
      ((∀ g : Fin 4, some g ∈ [x.refGroup, y.refGroup, (merged x y s).refGroup] → NoCrackLimit s g) →
        LimitsRest s t) := by
  obtain ⟨hframe, hrest⟩ := SlotsChange.noticed (mergeCracks_slots i j (merged x y s) s)
    fun g => [x.refGroup, y.refGroup, (merged x y s).refGroup].contains (some g)
  exact ⟨hframe, fun hn => hrest fun g hg => hn g (by simpa using hg)⟩

end Sys2Proof.Machine
end

section
/-! The statement about the requests of the crack table. -/

namespace Sys2Proof.Machine

/-! ## Table 8-6 as the statement tells it -/

/-- The greater width, and of two equal ones the later inspected (Table 8-6). -/
theorem mergeWidth_some (v w : Width) :
    mergeWidth (some v) (some w) =
      if v.width < w.width ∨ (v.width = w.width ∧ v.inspectedCycle < w.inspectedCycle) then some w else some v := by
  simp only [mergeWidth]
  rcases Nat.lt_trichotomy v.width w.width with h | h | h
  · rw [if_pos h, if_pos (.inl h)]
  · simp only [h, Nat.lt_irrefl, if_false, false_or, true_and]
  · rw [if_neg (by omega), if_pos h, if_neg (by omega)]

/-- A merged record keeps the width of the one record that has one. -/
theorem mergeWidth_none_right (v : Option Width) : mergeWidth v none = v := by cases v <;> rfl

/-- The zone of a merged record is that of its new position (R141). -/
theorem merged_refGroup (x y : Crack) (s : State) :
    (merged x y s).refGroup =
      zoneOf (roundDiv (roundDiv (x.xq * x.events + y.xq * y.events) (x.events + y.events)) 16) s :=
  refGroup_confirm _ _

/-- A merge in either order of its keys goes into the lower slot. -/
theorem mergeRequest_lower {i j : Fin 32} {x y : Crack} {a b : Byte} {s : State} (hij : i < j)
    (hx : s.cracks[i] = some x) (hy : s.cracks[j] = some y)
    (hab : (a = byte i.val ∧ b = byte j.val) ∨ (a = byte j.val ∧ b = byte i.val)) :
    mergeRequest a b s = (ok, mergeCracks i j x y s) := by
  rcases hab with ⟨rfl, rfl⟩ | ⟨rfl, rfl⟩
  · rw [mergeRequest_eq (Fin.ne_of_lt hij) hx hy, if_pos hij]
  · rw [mergeRequest_eq (Fin.ne_of_gt hij) hy hx, if_neg (Fin.lt_asymm hij)]

/-! ## The obligation -/

theorem exec_findCrack_found {x : Word} {s : State} {c : Fin 32} {y : Crack} (hd : Due (.findCrack x) s)
    (hx : x.toNat ≤ 250000) (hy : s.cracks[c] = some y)
    (hmin : ∀ (d : Fin 32) (z : Crack), s.cracks[d] = some z →
      ((x.toNat : Int) - y.xMm).natAbs < ((x.toNat : Int) - z.xMm).natAbs ∨
        (((x.toNat : Int) - y.xMm).natAbs = ((x.toNat : Int) - z.xMm).natAbs ∧ c ≤ d)) :
    exec (.findCrack x) s =
      .next
        { s with
          port := answered (okWith (byte c.val :: (encodeValue 4 (roundDiv y.xq 16) ++ [stateByte y.state]))) s } := by
  rw [← findPayload_eq]
  exact request_due_idle hd (findRequest_found hx (nearestCrack_of_nearest hy hmin) hy)

/-- The three requests of one record refuse a key that names none (R136). -/
theorem exec_deadKey {c : Instr} {slot : Byte} {s : State}
    (hc : c = .crackAck slot ∨ c = .crackRetire slot ∨ ∃ w, c = .crackWidth slot w) (hd : Due c s)
    (hk : DeadKey slot s) : Refuses c .badKey s := by
  rcases hc with rfl | rfl | ⟨w, rfl⟩ <;> exact request_due_idle hd (onCrack_deadKey hk _)

theorem deadKey_of_mergeKeys {a b : Byte} {s : State}
    (h : a = b ∨ 32 ≤ a.toNat ∨ 32 ≤ b.toNat ∨
      ∃ i : Fin 32, (a = byte i.val ∨ b = byte i.val) ∧ s.cracks[i] = none) :
    a = b ∨ DeadKey a s ∨ DeadKey b s := by
  rcases h with h | h | h | ⟨i, h | h, hn⟩
  · exact .inl h
  · exact .inr (.inl (.inl h))
  · exact .inr (.inr (.inl h))
  · exact .inr (.inl (.inr ⟨i, h, hn⟩))
  · exact .inr (.inr (.inr ⟨i, h, hn⟩))

/-- Settles O36: each request through its owner's answer; a changed slot is framed by `exec_putSlot` and a merge by
`mergeCracks_changes`. -/
theorem crackRequestsFindChangeAndMerge : Obligations.CrackRequestsFindChangeAndMerge := by
  refine ⟨fun x s hd => ⟨?_, ?_, ?_⟩, ⟨?_, ?_, ?_, ?_⟩, ?_, ?_⟩
  · exact fun h => request_due_idle hd (findRequest_badValue h)
  · exact fun hx h => request_due_idle hd (findRequest_notFound hx h)
  · exact fun c y hx hy hmin => exec_findCrack_found hd hx hy hmin
  · exact fun c slot s hc hd hk => exec_deadKey hc hd hk
  · exact fun i y w s hd hy hw =>
      request_due_idle hd ((onCrack_byte hy _).trans (widthRequest_badValue hw i y s))
  · exact fun i y s hd hy ha => request_due_idle hd ((onCrack_byte hy _).trans (ackRequest_acknowledged ha i s))
  · intro c i y s z marked hd hy hc
    rcases hc with ⟨rfl, ha, rfl, rfl⟩ | ⟨rfl, rfl, rfl⟩ | ⟨w, rfl, hw, rfl, rfl⟩
    · exact exec_putSlot rfl hd hy (ackRequest_unacknowledged ha i s) (by simp [crackFlags, ha])
    · exact exec_putSlot (f := retireRequest) rfl hd hy rfl (by simp [crackFlags])
    · exact exec_putSlot rfl hd hy (widthRequest_accepted hw i y rfl) (by simp [crackFlags])
  · exact fun a b s hd hk => request_due_idle hd (mergeRequest_badKey (deadKey_of_mergeKeys hk))
  · intro i j x y a b s hij hx hy hab hd xq ref rank state events confirmed
    obtain ⟨hframe, hrest⟩ := mergeCracks_changes i j x y s
    have hexec : exec (.crackMerge a b) s = .next (answer ok (mergeCracks i j x y s)) :=
      (request_due hd).trans (by rw [mergeRequest_lower hij hx hy hab])
    refine ⟨_, merged x y s, hexec, hframe.answer ok, fun hn => hrest fun g hg => hn g ?_, ?_⟩
    · rw [merged_refGroup] at hg
      simpa only [List.mem_cons, List.not_mem_nil, or_false, eq_comm] using hg
    · rw [merged, confirm_eq]
      refine ⟨rfl, rfl, rfl, rfl, rfl, rfl, rfl, rfl, rfl, rfl, rfl, ?_, fun hx => ?_, fun hy => ?_, fun v w hv hw => ?_⟩
      · show (if confirmed then some (lifeOf ref s) else mergeConfirm x.confirmCycle y.confirmCycle) = _
        cases x.confirmCycle <;> cases y.confirmCycle <;> rfl
      · exact congrArg (mergeWidth · y.width) hx
      · exact (congrArg (mergeWidth x.width) hy).trans (mergeWidth_none_right _)
      · exact (congrArg₂ mergeWidth hv hw).trans (mergeWidth_some v w)

end Sys2Proof.Machine
end

section
/-! The items of a READ (R185): the bytes of a value read back, an item run split back into the fields it came from, and
the statement about both. -/

namespace Sys2Proof

/-! ## The bytes of a value -/

theorem length_beBytes (w n : Nat) : (beBytes w n).length = w := by
  induction w generalizing n with
  | zero => rfl
  | succ w ih => rw [beBytes, List.length_append, ih, List.length_singleton]

/-- The last byte of a number is its lowest. -/
theorem beNat_append_singleton (bs : List Byte) (b : Byte) : beNat (bs ++ [b]) = beNat bs * 256 + b.toNat := by
  simp only [beNat, List.foldl_append, List.foldl_cons, List.foldl_nil]

/-- A number's bytes read back give the number, without what w bytes cannot hold. -/
theorem beNat_beBytes (w n : Nat) : beNat (beBytes w n) = n % 256 ^ w := by
  induction w generalizing n with
  | zero => rw [Nat.pow_zero, Nat.mod_one]; rfl
  | succ w ih =>
    rw [beBytes, beNat_append_singleton, ih, BitVec.toNat_ofNat, pow_succ' 256, Nat.mod_mul]
    omega

namespace Machine

theorem length_encodeValue (w : Nat) (v : Int) : (encodeValue w v).length = w := length_beBytes w _

/-- The bytes of a value carry it modulo the range of their width. -/
theorem beNat_encodeValue (w : Nat) (v : Int) : (beNat (encodeValue w v) : Int) = v % 256 ^ w := by
  have hpos : (0 : Int) < 256 ^ w := by positivity
  have hlt := Int.emod_lt_of_pos v hpos
  have hnn := Int.emod_nonneg v hpos.ne'
  rw [encodeValue, beNat_beBytes, Nat.cast_pow, Nat.cast_ofNat, Int.natCast_emod, Int.toNat_of_nonneg hnn]
  push_cast
  exact Int.emod_eq_of_lt hnn hlt

theorem beNat_encodeValue_of_nonneg {w : Nat} {v : Int} (hv : 0 ≤ v) (hlt : v < 256 ^ w) :
    (beNat (encodeValue w v) : Int) = v := by
  rw [beNat_encodeValue, Int.emod_eq_of_lt hv hlt]

/-- Two's complement: a negative value is sent as the number one range above it. -/
theorem signedBytes_encodeValue {w : Nat} {v : Int} (hlo : -(256 ^ w : Int) ≤ 2 * v) (hhi : 2 * v < 256 ^ w) :
    signedBytes w (beNat (encodeValue w v)) = v := by
  have hb := beNat_encodeValue w v
  have hcast : ((256 ^ w : Nat) : Int) = 256 ^ w := by push_cast; rfl
  unfold signedBytes
  by_cases hv : 0 ≤ v
  · rw [Int.emod_eq_of_lt hv (by omega)] at hb
    rw [if_pos (by omega), hb]
  · rw [← Int.add_emod_right, Int.emod_eq_of_lt (by omega) (by omega)] at hb
    rw [if_neg (by omega), hb]
    omega

/-! ## An item run -/

/-- The items of a record's fields, from field number n + 1. -/
def presentFrom (n : Nat) (ws : List Nat) (vs : List (Option Int)) : List (Nat × List Byte) :=
  (List.range vs.length).filterMap fun i =>
    match vs.getD i none with
    | some v => some (i + (n + 1), encodeValue (ws.getD i 0) v)
    | none => none

theorem presentFrom_cons (n w : Nat) (ws : List Nat) (x : Option Int) (vs : List (Option Int)) :
    presentFrom n (w :: ws) (x :: vs) =
      (x.map fun v => (n + 1, encodeValue w v)).toList ++ presentFrom (n + 1) ws vs := by
  have htail : ∀ i, i + 1 + (n + 1) = i + (n + 1 + 1) := fun i => by omega
  rw [presentFrom, List.length_cons, List.range_succ_eq_map, List.filterMap_cons, List.filterMap_map]
  cases x <;> simp [presentFrom, htail]

theorem length_encodeItems_le (f : Nat) (ws : List Nat) (vs : List (Option Int)) :
    (encodeItems f ws vs).length ≤ (ws.map (1 + ·)).sum := by
  induction ws generalizing f vs with
  | nil => cases vs <;> exact Nat.le_refl 0
  | cons w ws ih =>
    have hrest := ih (f + 1)
    rw [List.map_cons, List.sum_cons]
    match vs with
    | [] => exact Nat.zero_le _
    | none :: vs => exact (hrest vs).trans (Nat.le_add_left _ _)
    | some v :: vs =>
      have := hrest vs
      simp only [encodeItems, List.length_cons, List.length_append, length_encodeValue]
      omega

theorem length_widths_lt (k : Kind) : k.widths.length < 256 := by cases k <;> decide

theorem splitItems_nil (k : Kind) (fuel : Nat) : splitItems k fuel [] = [] := by cases fuel <;> rfl

/-- The first item of a run, of a field the kind has. -/
theorem splitItems_item {k : Kind} {f w : Nat} {value : List Byte} (hf : f < 256) (hw : k.width? f = some w)
    (hlen : value.length = w) (fuel : Nat) (rest : List Byte) :
    splitItems k (fuel + 1) (BitVec.ofNat 8 f :: value ++ rest) = (f, value) :: splitItems k fuel rest := by
  have hnum : (BitVec.ofNat 8 f).toNat = f := Nat.mod_eq_of_lt hf
  subst hlen
  simp [splitItems, hnum, hw]

/-- A run of items from field n + 1 splits back into the fields present. -/
theorem splitItems_encodeItems {k : Kind} {n : Nat} {ws : List Nat} {vs : List (Option Int)} {fuel : Nat}
    (hws : k.widths.drop n = ws) (hvs : vs.length ≤ ws.length) (hfuel : (encodeItems (n + 1) ws vs).length ≤ fuel) :
    splitItems k fuel (encodeItems (n + 1) ws vs) = presentFrom n ws vs := by
  induction ws generalizing n vs fuel with
  | nil =>
    obtain rfl := List.eq_nil_of_length_eq_zero (Nat.le_zero.mp hvs)
    exact splitItems_nil k fuel
  | cons w ws ih =>
    have htail : k.widths.drop (n + 1) = ws := by rw [← List.tail_drop, hws, List.tail_cons]
    have hwidth : k.width? (n + 1) = some w := by
      have := congrArg (·[0]?) hws
      simpa [Kind.width?] using this
    have hn : n < k.widths.length := List.length_lt_of_drop_ne_nil (by rw [hws]; exact List.cons_ne_nil w ws)
    have hbound := length_widths_lt k
    match vs with
    | [] => exact splitItems_nil k fuel
    | none :: vs =>
      rw [presentFrom_cons]
      exact ih htail (Nat.le_of_succ_le_succ hvs) hfuel
    | some v :: vs =>
      rw [presentFrom_cons]
      simp only [encodeItems, List.length_cons, List.length_append] at hfuel
      obtain ⟨fuel, rfl⟩ : ∃ m, fuel = m + 1 := ⟨fuel - 1, by omega⟩
      rw [encodeItems, splitItems_item (by omega) hwidth (length_encodeValue w v),
        ih htail (Nat.le_of_succ_le_succ hvs) (by omega)]
      rfl

/-! ## The payload of a READ -/

/-- A record has a value for each field of its kind, or the state alone (R125, R145). -/
theorem length_recordFields_le (s : State) (r : RecordId) : (recordFields s r).length ≤ r.kind.widths.length := by
  cases r with
  | crack c =>
    show (crackFields s.cracks[c]).length ≤ _
    cases s.cracks[c] <;> exact Nat.le_of_ble_eq_true rfl
  | limit l =>
    show (limitFields s.limits[l]).length ≤ _
    cases s.limits[l] <;> exact Nat.le_of_ble_eq_true rfl
  | _ => exact Nat.le_refl _

/-- All fields of a kind with their numbers fit the 105 bytes of a payload. -/
theorem items_fit (k : Kind) : (k.widths.map (1 + ·)).sum + 2 ≤ 105 := by cases k <;> decide

theorem length_readPayload_le (r : RecordId) (s : State) : (readPayload r s).length ≤ 105 :=
  (Nat.add_le_add_right (length_encodeItems_le 1 r.kind.widths (recordFields s r)) 2).trans (items_fit r.kind)

theorem splitItems_readPayload (r : RecordId) (s : State) :
    splitItems r.kind (readPayload r s).length ((readPayload r s).drop 2) =
      presentFrom 0 r.kind.widths (recordFields s r) :=
  splitItems_encodeItems (List.drop_zero) (length_recordFields_le s r) (Nat.le_add_right _ 2)

/-- Settles O48: an item run is split item by item, and its bytes are read modulo the range of their width. -/
theorem readItemsCarryTheFields : Obligations.ReadItemsCarryTheFields :=
  ⟨fun r s => ⟨rfl, length_readPayload_le r s, length_recordFields_le s r, splitItems_readPayload r s⟩,
    fun w v => ⟨length_encodeValue w v, beNat_encodeValue_of_nonneg, signedBytes_encodeValue⟩⟩

end Machine
end Sys2Proof
end
